-- ==== Sys2Proof/Word.lean ====
section
/-! DEFINITION. The word types of the sub023 codec core. -/

namespace Sys2Proof

/-- One byte of `BUF` or `IN` (spec 20_memory R61, R62). -/
abbrev Byte := BitVec 8

/-- A position, byte count, pixel count, band count, stride or run length: `POS_BITS = ACC_BITS = 32`
(spec 00_scope R6, R11). -/
abbrev Word := BitVec 32

/-- One sample value: the low `8 * sampleSize` bits hold it, the bits above are zero
(spec 10_state R31: values are bit vectors, not bytes). -/
abbrev Sample := BitVec 64

/-- One entry of a trie ROM, a two's-complement number: `ROM_ENTRY_BITS = 16` (spec 00_scope R11, 30_encoding
R112). -/
abbrev RomEntry := BitVec 16

/-- A command word (spec 30_encoding R90). -/
abbrev CmdWord := BitVec 96

end Sys2Proof
end

