-- ==== Sys2Proof/Syntax.lean ====
section
/-! DEFINITION. The instructions: one constructor per row of spec/opcode_table.json. The first six are
the commands the host sends (spec 30_encoding R93); the others are the code words of the two
Modified-Huffman tables (spec 31_code_tables R126 to R129), read from the input region inside `HNEXT`. -/

namespace Sys2Proof

/-- The `kind` field of a type identifier (spec 30_encoding R97). The fourth value, 3, is reserved:
no term stands for it, the decoder rejects it (R94). -/
inductive Kind where
  | uint
  | sint
  | float
deriving DecidableEq, Repr

/-- Byte order of multi-byte samples (spec 10_state R26, 30_encoding R100: `LE` 0, `BE` 1). -/
inductive ByteOrder where
  | le
  | be
deriving DecidableEq, Repr

/-- A colour, and the trie of that colour (spec 10_state R35, 30_encoding R100: `WHITE` 0, `BLACK` 1). -/
inductive Color where
  | white
  | black
deriving DecidableEq, Repr

/-- Tree selector of `HNEXT` (spec 30_encoding R99). The fourth value, 3, is reserved. -/
inductive Sel where
  | w
  | b
  | cur
deriving DecidableEq, Repr

/-- One constructor per row of spec/opcode_table.json. `mhw<n>` and `mhb<n>` are the code words of run
length `n` of the WHITE and of the BLACK table. -/
inductive Instr where
  /-- `RESOLVE kind, bits` (spec 40_resolver R145). -/
  | resolve (kind : Kind) (bits : BitVec 16)
  /-- `PCREATE kind, bits, order, spp, width` (spec 40_resolver R147). -/
  | pcreate (kind : Kind) (bits : BitVec 16) (order : ByteOrder) (spp width : Word)
  /-- `PREVERSE start, stop` (spec 41_predictor R160). -/
  | preverse (start stop : Word)
  /-- `HREGION offset, count` (spec 42_huffman R198). -/
  | hregion (offset count : Word)
  /-- `HLINE` (spec 42_huffman R199). -/
  | hline
  /-- `HNEXT sel` (spec 42_huffman R200). -/
  | hnext (sel : Sel)
  | mhw0 | mhw1 | mhw2 | mhw3 | mhw4 | mhw5 | mhw6 | mhw7 | mhw8 | mhw9 | mhw10 | mhw11 | mhw12 | mhw13
  | mhw14 | mhw15 | mhw16 | mhw17 | mhw18 | mhw19 | mhw20 | mhw21 | mhw22 | mhw23 | mhw24 | mhw25 | mhw26
  | mhw27 | mhw28 | mhw29 | mhw30 | mhw31 | mhw32 | mhw33 | mhw34 | mhw35 | mhw36 | mhw37 | mhw38 | mhw39
  | mhw40 | mhw41 | mhw42 | mhw43 | mhw44 | mhw45 | mhw46 | mhw47 | mhw48 | mhw49 | mhw50 | mhw51 | mhw52
  | mhw53 | mhw54 | mhw55 | mhw56 | mhw57 | mhw58 | mhw59 | mhw60 | mhw61 | mhw62 | mhw63 | mhw64 | mhw128
  | mhw192 | mhw256 | mhw320 | mhw384 | mhw448 | mhw512 | mhw576 | mhw640 | mhw704 | mhw768 | mhw832 | mhw896
  | mhw960 | mhw1024 | mhw1088 | mhw1152 | mhw1216 | mhw1280 | mhw1344 | mhw1408 | mhw1472 | mhw1536
  | mhw1600 | mhw1664 | mhw1728 | mhw1792 | mhw1856 | mhw1920 | mhw1984 | mhw2048 | mhw2112 | mhw2176
  | mhw2240 | mhw2304 | mhw2368 | mhw2432 | mhw2496 | mhw2560
  | mhb0 | mhb1 | mhb2 | mhb3 | mhb4 | mhb5 | mhb6 | mhb7 | mhb8 | mhb9 | mhb10 | mhb11 | mhb12 | mhb13
  | mhb14 | mhb15 | mhb16 | mhb17 | mhb18 | mhb19 | mhb20 | mhb21 | mhb22 | mhb23 | mhb24 | mhb25 | mhb26
  | mhb27 | mhb28 | mhb29 | mhb30 | mhb31 | mhb32 | mhb33 | mhb34 | mhb35 | mhb36 | mhb37 | mhb38 | mhb39
  | mhb40 | mhb41 | mhb42 | mhb43 | mhb44 | mhb45 | mhb46 | mhb47 | mhb48 | mhb49 | mhb50 | mhb51 | mhb52
  | mhb53 | mhb54 | mhb55 | mhb56 | mhb57 | mhb58 | mhb59 | mhb60 | mhb61 | mhb62 | mhb63 | mhb64 | mhb128
  | mhb192 | mhb256 | mhb320 | mhb384 | mhb448 | mhb512 | mhb576 | mhb640 | mhb704 | mhb768 | mhb832 | mhb896
  | mhb960 | mhb1024 | mhb1088 | mhb1152 | mhb1216 | mhb1280 | mhb1344 | mhb1408 | mhb1472 | mhb1536
  | mhb1600 | mhb1664 | mhb1728 | mhb1792 | mhb1856 | mhb1920 | mhb1984 | mhb2048 | mhb2112 | mhb2176
  | mhb2240 | mhb2304 | mhb2368 | mhb2432 | mhb2496 | mhb2560
deriving DecidableEq, Repr

/-- The WHITE terminating words, run lengths 0 to 63 in order (spec 31_code_tables R120). -/
def whiteTerminating : List Instr :=
  [.mhw0, .mhw1, .mhw2, .mhw3, .mhw4, .mhw5, .mhw6, .mhw7, .mhw8, .mhw9, .mhw10, .mhw11, .mhw12, .mhw13,
    .mhw14, .mhw15, .mhw16, .mhw17, .mhw18, .mhw19, .mhw20, .mhw21, .mhw22, .mhw23, .mhw24, .mhw25, .mhw26,
    .mhw27, .mhw28, .mhw29, .mhw30, .mhw31, .mhw32, .mhw33, .mhw34, .mhw35, .mhw36, .mhw37, .mhw38, .mhw39,
    .mhw40, .mhw41, .mhw42, .mhw43, .mhw44, .mhw45, .mhw46, .mhw47, .mhw48, .mhw49, .mhw50, .mhw51, .mhw52,
    .mhw53, .mhw54, .mhw55, .mhw56, .mhw57, .mhw58, .mhw59, .mhw60, .mhw61, .mhw62, .mhw63]

/-- The WHITE makeup words, run lengths 64, 128, ..., 2560 in order (spec 31_code_tables R120). -/
def whiteMakeup : List Instr :=
  [.mhw64, .mhw128, .mhw192, .mhw256, .mhw320, .mhw384, .mhw448, .mhw512, .mhw576, .mhw640, .mhw704,
    .mhw768, .mhw832, .mhw896, .mhw960, .mhw1024, .mhw1088, .mhw1152, .mhw1216, .mhw1280, .mhw1344, .mhw1408,
    .mhw1472, .mhw1536, .mhw1600, .mhw1664, .mhw1728, .mhw1792, .mhw1856, .mhw1920, .mhw1984, .mhw2048,
    .mhw2112, .mhw2176, .mhw2240, .mhw2304, .mhw2368, .mhw2432, .mhw2496, .mhw2560]

/-- The BLACK terminating words, run lengths 0 to 63 in order (spec 31_code_tables R120). -/
def blackTerminating : List Instr :=
  [.mhb0, .mhb1, .mhb2, .mhb3, .mhb4, .mhb5, .mhb6, .mhb7, .mhb8, .mhb9, .mhb10, .mhb11, .mhb12, .mhb13,
    .mhb14, .mhb15, .mhb16, .mhb17, .mhb18, .mhb19, .mhb20, .mhb21, .mhb22, .mhb23, .mhb24, .mhb25, .mhb26,
    .mhb27, .mhb28, .mhb29, .mhb30, .mhb31, .mhb32, .mhb33, .mhb34, .mhb35, .mhb36, .mhb37, .mhb38, .mhb39,
    .mhb40, .mhb41, .mhb42, .mhb43, .mhb44, .mhb45, .mhb46, .mhb47, .mhb48, .mhb49, .mhb50, .mhb51, .mhb52,
    .mhb53, .mhb54, .mhb55, .mhb56, .mhb57, .mhb58, .mhb59, .mhb60, .mhb61, .mhb62, .mhb63]

/-- The BLACK makeup words, run lengths 64, 128, ..., 2560 in order (spec 31_code_tables R120). -/
def blackMakeup : List Instr :=
  [.mhb64, .mhb128, .mhb192, .mhb256, .mhb320, .mhb384, .mhb448, .mhb512, .mhb576, .mhb640, .mhb704,
    .mhb768, .mhb832, .mhb896, .mhb960, .mhb1024, .mhb1088, .mhb1152, .mhb1216, .mhb1280, .mhb1344, .mhb1408,
    .mhb1472, .mhb1536, .mhb1600, .mhb1664, .mhb1728, .mhb1792, .mhb1856, .mhb1920, .mhb1984, .mhb2048,
    .mhb2112, .mhb2176, .mhb2240, .mhb2304, .mhb2368, .mhb2432, .mhb2496, .mhb2560]

/-- The code words of one colour in the order of the table: index `v` for a terminating word of run
length `v`, index `63 + v / 64` for a makeup word. -/
def codeWords : Color → List Instr
  | .white => whiteTerminating ++ whiteMakeup
  | .black => blackTerminating ++ blackMakeup

/-- The colour and the run length a code-word row stands for; `none` for the six commands. -/
def Instr.codeWord? : Instr → Option (Color × Nat)
  | .resolve _ _ | .pcreate _ _ _ _ _ | .preverse _ _ | .hregion _ _ | .hline | .hnext _ => none
  | .mhw0 => some (.white, 0)
  | .mhw1 => some (.white, 1)
  | .mhw2 => some (.white, 2)
  | .mhw3 => some (.white, 3)
  | .mhw4 => some (.white, 4)
  | .mhw5 => some (.white, 5)
  | .mhw6 => some (.white, 6)
  | .mhw7 => some (.white, 7)
  | .mhw8 => some (.white, 8)
  | .mhw9 => some (.white, 9)
  | .mhw10 => some (.white, 10)
  | .mhw11 => some (.white, 11)
  | .mhw12 => some (.white, 12)
  | .mhw13 => some (.white, 13)
  | .mhw14 => some (.white, 14)
  | .mhw15 => some (.white, 15)
  | .mhw16 => some (.white, 16)
  | .mhw17 => some (.white, 17)
  | .mhw18 => some (.white, 18)
  | .mhw19 => some (.white, 19)
  | .mhw20 => some (.white, 20)
  | .mhw21 => some (.white, 21)
  | .mhw22 => some (.white, 22)
  | .mhw23 => some (.white, 23)
  | .mhw24 => some (.white, 24)
  | .mhw25 => some (.white, 25)
  | .mhw26 => some (.white, 26)
  | .mhw27 => some (.white, 27)
  | .mhw28 => some (.white, 28)
  | .mhw29 => some (.white, 29)
  | .mhw30 => some (.white, 30)
  | .mhw31 => some (.white, 31)
  | .mhw32 => some (.white, 32)
  | .mhw33 => some (.white, 33)
  | .mhw34 => some (.white, 34)
  | .mhw35 => some (.white, 35)
  | .mhw36 => some (.white, 36)
  | .mhw37 => some (.white, 37)
  | .mhw38 => some (.white, 38)
  | .mhw39 => some (.white, 39)
  | .mhw40 => some (.white, 40)
  | .mhw41 => some (.white, 41)
  | .mhw42 => some (.white, 42)
  | .mhw43 => some (.white, 43)
  | .mhw44 => some (.white, 44)
  | .mhw45 => some (.white, 45)
  | .mhw46 => some (.white, 46)
  | .mhw47 => some (.white, 47)
  | .mhw48 => some (.white, 48)
  | .mhw49 => some (.white, 49)
  | .mhw50 => some (.white, 50)
  | .mhw51 => some (.white, 51)
  | .mhw52 => some (.white, 52)
  | .mhw53 => some (.white, 53)
  | .mhw54 => some (.white, 54)
  | .mhw55 => some (.white, 55)
  | .mhw56 => some (.white, 56)
  | .mhw57 => some (.white, 57)
  | .mhw58 => some (.white, 58)
  | .mhw59 => some (.white, 59)
  | .mhw60 => some (.white, 60)
  | .mhw61 => some (.white, 61)
  | .mhw62 => some (.white, 62)
  | .mhw63 => some (.white, 63)
  | .mhw64 => some (.white, 64)
  | .mhw128 => some (.white, 128)
  | .mhw192 => some (.white, 192)
  | .mhw256 => some (.white, 256)
  | .mhw320 => some (.white, 320)
  | .mhw384 => some (.white, 384)
  | .mhw448 => some (.white, 448)
  | .mhw512 => some (.white, 512)
  | .mhw576 => some (.white, 576)
  | .mhw640 => some (.white, 640)
  | .mhw704 => some (.white, 704)
  | .mhw768 => some (.white, 768)
  | .mhw832 => some (.white, 832)
  | .mhw896 => some (.white, 896)
  | .mhw960 => some (.white, 960)
  | .mhw1024 => some (.white, 1024)
  | .mhw1088 => some (.white, 1088)
  | .mhw1152 => some (.white, 1152)
  | .mhw1216 => some (.white, 1216)
  | .mhw1280 => some (.white, 1280)
  | .mhw1344 => some (.white, 1344)
  | .mhw1408 => some (.white, 1408)
  | .mhw1472 => some (.white, 1472)
  | .mhw1536 => some (.white, 1536)
  | .mhw1600 => some (.white, 1600)
  | .mhw1664 => some (.white, 1664)
  | .mhw1728 => some (.white, 1728)
  | .mhw1792 => some (.white, 1792)
  | .mhw1856 => some (.white, 1856)
  | .mhw1920 => some (.white, 1920)
  | .mhw1984 => some (.white, 1984)
  | .mhw2048 => some (.white, 2048)
  | .mhw2112 => some (.white, 2112)
  | .mhw2176 => some (.white, 2176)
  | .mhw2240 => some (.white, 2240)
  | .mhw2304 => some (.white, 2304)
  | .mhw2368 => some (.white, 2368)
  | .mhw2432 => some (.white, 2432)
  | .mhw2496 => some (.white, 2496)
  | .mhw2560 => some (.white, 2560)
  | .mhb0 => some (.black, 0)
  | .mhb1 => some (.black, 1)
  | .mhb2 => some (.black, 2)
  | .mhb3 => some (.black, 3)
  | .mhb4 => some (.black, 4)
  | .mhb5 => some (.black, 5)
  | .mhb6 => some (.black, 6)
  | .mhb7 => some (.black, 7)
  | .mhb8 => some (.black, 8)
  | .mhb9 => some (.black, 9)
  | .mhb10 => some (.black, 10)
  | .mhb11 => some (.black, 11)
  | .mhb12 => some (.black, 12)
  | .mhb13 => some (.black, 13)
  | .mhb14 => some (.black, 14)
  | .mhb15 => some (.black, 15)
  | .mhb16 => some (.black, 16)
  | .mhb17 => some (.black, 17)
  | .mhb18 => some (.black, 18)
  | .mhb19 => some (.black, 19)
  | .mhb20 => some (.black, 20)
  | .mhb21 => some (.black, 21)
  | .mhb22 => some (.black, 22)
  | .mhb23 => some (.black, 23)
  | .mhb24 => some (.black, 24)
  | .mhb25 => some (.black, 25)
  | .mhb26 => some (.black, 26)
  | .mhb27 => some (.black, 27)
  | .mhb28 => some (.black, 28)
  | .mhb29 => some (.black, 29)
  | .mhb30 => some (.black, 30)
  | .mhb31 => some (.black, 31)
  | .mhb32 => some (.black, 32)
  | .mhb33 => some (.black, 33)
  | .mhb34 => some (.black, 34)
  | .mhb35 => some (.black, 35)
  | .mhb36 => some (.black, 36)
  | .mhb37 => some (.black, 37)
  | .mhb38 => some (.black, 38)
  | .mhb39 => some (.black, 39)
  | .mhb40 => some (.black, 40)
  | .mhb41 => some (.black, 41)
  | .mhb42 => some (.black, 42)
  | .mhb43 => some (.black, 43)
  | .mhb44 => some (.black, 44)
  | .mhb45 => some (.black, 45)
  | .mhb46 => some (.black, 46)
  | .mhb47 => some (.black, 47)
  | .mhb48 => some (.black, 48)
  | .mhb49 => some (.black, 49)
  | .mhb50 => some (.black, 50)
  | .mhb51 => some (.black, 51)
  | .mhb52 => some (.black, 52)
  | .mhb53 => some (.black, 53)
  | .mhb54 => some (.black, 54)
  | .mhb55 => some (.black, 55)
  | .mhb56 => some (.black, 56)
  | .mhb57 => some (.black, 57)
  | .mhb58 => some (.black, 58)
  | .mhb59 => some (.black, 59)
  | .mhb60 => some (.black, 60)
  | .mhb61 => some (.black, 61)
  | .mhb62 => some (.black, 62)
  | .mhb63 => some (.black, 63)
  | .mhb64 => some (.black, 64)
  | .mhb128 => some (.black, 128)
  | .mhb192 => some (.black, 192)
  | .mhb256 => some (.black, 256)
  | .mhb320 => some (.black, 320)
  | .mhb384 => some (.black, 384)
  | .mhb448 => some (.black, 448)
  | .mhb512 => some (.black, 512)
  | .mhb576 => some (.black, 576)
  | .mhb640 => some (.black, 640)
  | .mhb704 => some (.black, 704)
  | .mhb768 => some (.black, 768)
  | .mhb832 => some (.black, 832)
  | .mhb896 => some (.black, 896)
  | .mhb960 => some (.black, 960)
  | .mhb1024 => some (.black, 1024)
  | .mhb1088 => some (.black, 1088)
  | .mhb1152 => some (.black, 1152)
  | .mhb1216 => some (.black, 1216)
  | .mhb1280 => some (.black, 1280)
  | .mhb1344 => some (.black, 1344)
  | .mhb1408 => some (.black, 1408)
  | .mhb1472 => some (.black, 1472)
  | .mhb1536 => some (.black, 1536)
  | .mhb1600 => some (.black, 1600)
  | .mhb1664 => some (.black, 1664)
  | .mhb1728 => some (.black, 1728)
  | .mhb1792 => some (.black, 1792)
  | .mhb1856 => some (.black, 1856)
  | .mhb1920 => some (.black, 1920)
  | .mhb1984 => some (.black, 1984)
  | .mhb2048 => some (.black, 2048)
  | .mhb2112 => some (.black, 2112)
  | .mhb2176 => some (.black, 2176)
  | .mhb2240 => some (.black, 2240)
  | .mhb2304 => some (.black, 2304)
  | .mhb2368 => some (.black, 2368)
  | .mhb2432 => some (.black, 2432)
  | .mhb2496 => some (.black, 2496)
  | .mhb2560 => some (.black, 2560)

end Sys2Proof
end

