-- ==== Sys2Proof/Machine/Rom.lean ====
section
/-! DEFINITION. The code tries: construction from a table (spec 42_huffman R190 to R194), flattening (R195) to a ROM of
16-bit entries (spec 30_encoding R112), the ROM images of the default tables (spec 31_code_tables R132, R133), the
ROMs of a build (spec 10_state R46), the lookup step (spec 30_encoding R116) and the walk
(spec 42_huffman R203). -/

namespace Sys2Proof.Machine

/-- A node of a trie (spec 42_huffman R192); `absent` is a missing child. -/
inductive Trie where
  | absent
  | leaf (run : Nat)
  | node (c0 c1 : Trie)
deriving DecidableEq, Repr

/-- One construction step (spec 42_huffman R193): walk or create the nodes of the pattern and put the leaf
at its end. `none` is a collision (R194): a leaf stands on the way, or something stands at the end. -/
def Trie.insert : Trie → List Bool → Nat → Option Trie
  | .absent, [], v => some (.leaf v)
  | .absent, false :: bs, v => (Trie.insert .absent bs v).map fun t => .node t .absent
  | .absent, true :: bs, v => (Trie.insert .absent bs v).map fun t => .node .absent t
  | .leaf _, _, _ => none
  | .node _ _, [], _ => none
  | .node c0 c1, false :: bs, v => (Trie.insert c0 bs v).map fun t => .node t c1
  | .node c0 c1, true :: bs, v => (Trie.insert c1 bs v).map fun t => .node c0 t

/-- Enter every row of a table into a trie. -/
def Trie.insertAll : Trie → List CodeRow → Option Trie
  | t, [] => some t
  | t, r :: rs => (t.insert r.pattern r.run).bind fun t' => t'.insertAll rs

/-- Construction of the trie of a table (spec 42_huffman R193): it starts with a root without children.
`none`: two entries collide, and there is no hardware (R194). -/
def buildTrie (rows : List CodeRow) : Option Trie :=
  Trie.insertAll (.node .absent .absent) rows

/-- Flattening (spec 42_huffman R195): the entries of a subtree whose first entry stands at index `base`. -/
def Trie.emit : Nat → Trie → List Int
  | _, .absent => [0]
  | _, .leaf v => [Int.negSucc v]
  | base, .node c0 c1 =>
    let left := Trie.emit (base + 1) c0
    let right := base + 1 + left.length
    (right : Int) :: (left ++ Trie.emit right c1)

/-- An entry fits `ROM_ENTRY_BITS` bits of two's complement (spec 00_scope R11). -/
def fitsRomEntry (e : Int) : Bool := decide (-2 ^ 15 ≤ e) && decide (e < 2 ^ 15)

/-- The ROM image of a trie (spec 42_huffman R195); `none` when an entry does not fit its 16 bits (spec
30_encoding R112). -/
def Trie.image (t : Trie) : Option (List RomEntry) :=
  if (Trie.emit 0 t).all fitsRomEntry then some ((Trie.emit 0 t).map (BitVec.ofInt 16)) else none

/-- The ROM image built from a code table; `none` when the table has no trie, or its trie no image: there is then no
hardware (spec 42_huffman R194). -/
def buildRom (rows : List CodeRow) : Option (List RomEntry) := (buildTrie rows).bind Trie.image

/-- `ROM_WHITE`, entries 0 to 63 (spec 31_code_tables R132). -/
def romWhite0 : List RomEntry :=
  [184, 107, 70, 49, 42, 37, 34, 9, 0, 23, 16, 13, -1793, 15, -1985, -2049, 20, 19, -2113, -2177,
    22, -2241, -2305, 27, 26, -1857, -1921, 31, 30, -2369, -2433, 33, -2497, -2561, 36, -30, -31,
    41, 40, -46, -47, -23, 48, 45, -24, 47, -48, -49, -14, 63, 56, 53, -21, 55, -34, -35, 60, 59,
    -36, -37, 62, -38, -39, 69]

/-- `ROM_WHITE`, entries 64 to 127 (spec 31_code_tables R132). -/
def romWhite64 : List RomEntry :=
  [66, -20, 68, -32, -33, -2, 92, 79, 74, -13, 78, 77, -54, -55, -27, 87, 84, 83, -40, -41, 86,
    -42, -43, 91, 90, -44, -45, -22, 106, 99, 96, -29, 98, -62, -63, 103, 102, -64, -1, 105, -321,
    -385, -11, 147, 126, 111, -12, 117, 114, -28, 116, -60, -61, 125, 122, 121, -1473, -1537, 124,
    -1601, -1729, -19, 138, 133]

/-- `ROM_WHITE`, entries 128 to 191 (spec 31_code_tables R132). -/
def romWhite128 : List RomEntry :=
  [130, -25, 132, -50, -51, 137, 136, -52, -53, -26, 146, 143, 142, -56, -57, 145, -58, -59, -193,
    183, 160, 151, -1665, 155, 154, -449, -513, 159, 158, -705, -769, -641, 174, 167, 164, -577,
    166, -833, -897, 171, 170, -961, -1025, 173, -1089, -1153, 182, 179, 178, -1217, -1281, 181,
    -1345, -1409, -257, -3, 198, 191, 188, -4, 190, -129, -9, 197]

/-- `ROM_WHITE`, entries 192 to 208 (spec 31_code_tables R132). -/
def romWhite192 : List RomEntry :=
  [194, -10, 196, -17, -18, -5, 206, 201, -6, 205, 204, -15, -16, -65, 208, -7, -8]

/-- `ROM_WHITE`, 209 entries (spec 31_code_tables R132). -/
def romWhite : List RomEntry := romWhite0 ++ romWhite64 ++ romWhite128 ++ romWhite192

/-- `ROM_BLACK`, entries 0 to 63 (spec 31_code_tables R133). -/
def romBlack0 : List RomEntry :=
  [206, 203, 200, 195, 152, 101, 34, 9, 0, 23, 16, 13, -1793, 15, -1985, -2049, 20, 19, -2113,
    -2177, 22, -2241, -2305, 27, 26, -1857, -1921, 31, 30, -2369, -2433, 33, -2497, -2561, 68, 49,
    38, -19, 44, 41, -53, 43, -641, -705, 48, 47, -769, -833, -56, 61, 56, 53, -57, 55, -1281,
    -1345, 60, 59, -1409, -1473, -60, 67, 64, -61]

/-- `ROM_BLACK`, entries 64 to 127 (spec 31_code_tables R133). -/
def romBlack64 : List RomEntry :=
  [66, -1537, -1601, -25, 86, 77, 72, -26, 76, 75, -1665, -1729, -321, 81, 80, -385, -449, 85, 84,
    -513, -577, -54, 100, 93, 90, -55, 92, -897, -961, 97, 96, -1025, -1089, 99, -1153, -1217, -65,
    127, 104, -14, 118, 111, 108, -24, 110, -51, -52, 115, 114, -45, -46, 117, -47, -48, 126, 123,
    122, -58, -59, 125, -62, -257, -17, 151]

/-- `ROM_BLACK`, entries 128 to 191 (spec 31_code_tables R133). -/
def romBlack128 : List RomEntry :=
  [138, 131, -18, 135, 134, -49, -50, 137, -63, -64, 146, 143, 142, -31, -32, 145, -33, -34, 150,
    149, -41, -42, -23, -15, 156, 155, -11, -12, 194, 173, 160, -16, 168, 165, 164, -129, -193,
    167, -27, -28, 172, 171, -29, -30, -20, 187, 180, 177, -21, 179, -35, -36, 184, 183, -37, -38,
    186, -39, -40, 193, 190, -22, 192, -43]

/-- `ROM_BLACK`, entries 192 to 208 (spec 31_code_tables R133). -/
def romBlack192 : List RomEntry :=
  [-44, -1, -13, 199, 198, -10, -9, -8, 202, -7, -6, 205, -2, -5, 208, -4, -3]

/-- `ROM_BLACK`, 209 entries (spec 31_code_tables R133). -/
def romBlack : List RomEntry := romBlack0 ++ romBlack64 ++ romBlack128 ++ romBlack192

/-- The ROM of a colour in a build (spec 20_memory R63, 10_state R46): the image built from its code table, which for
the default tables is the image the spec prints. -/
def rom : CodeTables → Color → Option (List RomEntry)
  | .standard, .white => some romWhite
  | .standard, .black => some romBlack
  | .configured white _, .white => buildRom white
  | .configured _ black, .black => buildRom black

/-- What an edge of the walk leads to. -/
inductive Edge where
  | leaf (run : Nat)
  | absent
  | node (index : Nat)
deriving DecidableEq, Repr

/-- What stands at index `i`, read from its entry as a two's-complement number: negative a leaf holding `~entry` (spec
30_encoding R113), zero an absent node (R115), positive an internal node (R114). -/
def classify (i : Nat) (entry : RomEntry) : Edge :=
  if entry.msb then .leaf (~~~entry).toNat
  else if entry = 0 then .absent
  else .node i

/-- One lookup step (spec 30_encoding R116): the bit-1 child of node `i` is the node its entry names, the
bit-0 child is the next entry. -/
def lookupStep (t : List RomEntry) (i : Nat) (bit : Bool) : Edge :=
  let next := if bit then (t.getD i 0).toNat else i + 1
  classify next (t.getD next 0)

/-- How a walk ends, with the number of bits read. -/
inductive WalkEnd where
  /-- A leaf was reached. -/
  | leaf (run used : Nat)
  /-- The bit just read has no edge (spec 42_huffman R204). -/
  | noPath (used : Nat)
  /-- No bit was left (spec 42_huffman R208). -/
  | endOfInput (used : Nat)
deriving DecidableEq, Repr

/-- One walk from node `i`, `used` bits having been read before (spec 42_huffman R203). -/
def walkFrom (t : List RomEntry) : Nat → Nat → List Bool → WalkEnd
  | _, used, [] => .endOfInput used
  | i, used, bit :: rest =>
    match lookupStep t i bit with
    | .leaf v => .leaf v (used + 1)
    | .absent => .noPath (used + 1)
    | .node j => walkFrom t j (used + 1) rest

/-- One walk from the root (spec 42_huffman R203: `node <- root(T)`). -/
def walk (t : List RomEntry) (bits : List Bool) : WalkEnd := walkFrom t 0 0 bits

end Sys2Proof.Machine
end

