-- ==== Sys2Proof/Config.lean ====
section
/-! DEFINITION. What a build of the core fixes, and the values the spec leaves free. The open parameters
(spec 92_eei_decisions, "Open parameters") are plain data, `Params`, so that every statement holds for
every build. A free value is a constant without a body. -/

namespace Sys2Proof

/-- Which floating-point addition the build has (spec 00_scope R10): the IEEE 754 default, or another
function of the two operands, of which nothing is assumed. -/
inductive FloatAdd where
  | ieee
  | configured
deriving DecidableEq, Repr

/-- The open parameters of a build (spec 00_scope R6, R7, R9, R10; 10_state R46; D9, D10, D13, D20). `BUF_SIZE` and
`IN_SIZE` are `0 .. 2^32 - 1`, which 32 bits hold exactly; `MAX_BANDS` is at least 1 and each code table has a trie
(`Params.wellFormed`). The ROM images are those built from the tables (`Machine.rom`). -/
structure Params where
  bufSize : Word
  inSize : Word
  maxBands : Word
  fadd : FloatAdd
  tables : Machine.CodeTables
deriving DecidableEq, Repr

/-- The parameters of the spec's worked vectors (spec 95_test_vectors, "Notation": `BUF_SIZE = 64`,
`IN_SIZE = 64`, `MAX_BANDS = 16`), with the default additions and code tables. DESIGN CHOICE, log entry 1 (unsafe): a real
build has its own; statements quantify over all of them. -/
def Params.ofVectors : Params :=
  { bufSize := 64, inSize := 64, maxBands := 16, fadd := .ieee, tables := .standard }

/-- The two memories the host owns (spec 20_memory R61, R62). -/
inductive Space where
  | buf
  | inp
deriving DecidableEq, Repr

/-- What a byte that nothing has written since power-on reads as (spec 70_reset R262, 93 U8: any value).
One value per space and address, so that two reads agree. Log entry 5. -/
opaque Config.powerOnByte : Space → Nat → Byte

/-- `FADD32` and `FADD64` of a build that does not take the default (spec 00_scope R10, D13): any
functions of the two operands. Log entry 8. -/
opaque Config.fadd32 : BitVec 32 → BitVec 32 → BitVec 32

/-- See `Config.fadd32`. -/
opaque Config.fadd64 : BitVec 64 → BitVec 64 → BitVec 64

/-- Sign and payload of the quiet NaN that the default binary32 addition of these operands gives
(spec 41_predictor R172, 93 U13: any quiet NaN). Log entry 7. -/
opaque Config.nanBits32 : BitVec 32 → BitVec 32 → BitVec 32

/-- See `Config.nanBits32`, for binary64. -/
opaque Config.nanBits64 : BitVec 64 → BitVec 64 → BitVec 64

end Sys2Proof
end

