-- ==== Sys2Proof/WellFormed.lean ====
section
/-! DEFINITION. Well-formedness. A term of `Instr` has no ill-formed value: `Kind`, `Sel` and `ByteOrder` have exactly the
legal values of their fields. What can be ill-formed is a raw command word (spec 30_encoding R92, R94), a
code table (spec 31_code_tables R120 to R122) and the parameters of a build (spec 00_scope R7). -/

namespace Sys2Proof

/-- The five fields of a command word (spec 30_encoding R90). -/
structure RawCommand where
  op : BitVec 8
  f : BitVec 8
  n : BitVec 16
  a : BitVec 32
  b : BitVec 32
deriving DecidableEq, Repr

/-- The opcode is one of the six (spec 30_encoding R93). -/
def RawCommand.opcodeKnown (r : RawCommand) : Bool :=
  r.op = 0x01 || r.op = 0x02 || r.op = 0x03 || r.op = 0x10 || r.op = 0x11 || r.op = 0x12

/-- Every reserved field and bit is zero (spec 30_encoding R91, R92). -/
def RawCommand.reservedZero (r : RawCommand) : Bool :=
  if r.op = 0x01 then r.f.extractLsb' 2 6 = 0 && r.a = 0 && r.b = 0
  else if r.op = 0x02 then r.f.extractLsb' 3 5 = 0
  else if r.op = 0x03 || r.op = 0x10 then r.f = 0 && r.n = 0
  else if r.op = 0x11 then r.f = 0 && r.n = 0 && r.a = 0 && r.b = 0
  else if r.op = 0x12 then r.f.extractLsb' 2 6 = 0 && r.n = 0 && r.a = 0 && r.b = 0
  else true

/-- `kind` is not 3 in `RESOLVE` and `PCREATE` (spec 30_encoding R97). -/
def RawCommand.kindLegal (r : RawCommand) : Bool :=
  !((r.op = 0x01 || r.op = 0x02) && r.f.extractLsb' 0 2 = 3)

/-- `sel` is not 3 in `HNEXT` (spec 30_encoding R99). -/
def RawCommand.selLegal (r : RawCommand) : Bool :=
  !(r.op = 0x12 && r.f.extractLsb' 0 2 = 3)

/-- A legal command (spec 30_encoding R94). -/
def RawCommand.wellFormed (r : RawCommand) : Bool :=
  r.opcodeKnown && r.reservedZero && r.kindLegal && r.selLegal

/-- No pattern is empty (spec 31_code_tables R121). -/
def tablePatternsNonempty (rows : List Machine.CodeRow) : Bool :=
  rows.all fun r => r.len ≠ 0 && r.code < 2 ^ r.len

/-- The run lengths a code table has entries for: 0 to 63 and 64, 128, ..., 2560 (spec 31_code_tables R120). -/
def tableRuns : List Nat := List.range 64 ++ (List.range 40).map fun k => 64 * (k + 1)

/-- The table has an entry for each of those run lengths, one only, and no others (spec 31_code_tables R120); the order of
the entries is free (spec 42_huffman R193). -/
def tableRunsComplete (rows : List Machine.CodeRow) : Bool :=
  tableRuns.all (fun v => rows.any fun r => r.run == v) && rows.all (fun r => tableRuns.contains r.run) &&
    decide (rows.map (·.run)).Nodup

/-- The table has a ROM: no pattern is a prefix of, or equal to, that of another entry, so the construction meets no
collision (spec 31_code_tables R122, 42_huffman R193, R194), and every entry of the image fits 16 bits (spec 00_scope
R11). -/
def tableHasRom (rows : List Machine.CodeRow) : Bool := (Machine.buildRom rows).isSome

/-- A table from which hardware can be built (spec 93 U19). It need not hold the printed words of spec 31_code_tables R125,
nor leave `00000000` without an entry (R123, R124): the spec asks only collision-freedom of a table that is not the
default. DESIGN CHOICE, log entry 17 (safe). -/
def tableWellFormed (rows : List Machine.CodeRow) : Bool :=
  tablePatternsNonempty rows && tableRunsComplete rows && tableHasRom rows

/-- Both code tables are tables from which hardware can be built (spec 00_scope R9, 93 U19). -/
def tablesWellFormed (tables : Machine.CodeTables) : Bool :=
  tableWellFormed (Machine.codeTable tables .white) && tableWellFormed (Machine.codeTable tables .black)

/-- `MAX_BANDS` is at least 1 (spec 00_scope R7) and the code tables are tables (R9); the upper bounds of the sizes
hold by their width. -/
def Params.wellFormed (p : Params) : Bool := p.maxBands ≠ 0 && tablesWellFormed p.tables

end Sys2Proof
end

