-- ==== Sys2Proof/Decode.lean ====
section
/-! DEFINITION. The decoder of command words (spec 30_encoding R90 to R94, R97, R99 to R101), the decoder of code words of the
input stream (spec 30_encoding R102, R103), and after them the encoders. -/

namespace Sys2Proof
open Sys2Proof.Machine

/-- Why a word is no instruction. The first four are the causes of `ILLEGAL_COMMAND` (spec 60_exceptions R238). -/
inductive DecodeError where
  /-- An opcode outside the six (spec 30_encoding R93). -/
  | illegalOpcode (op : BitVec 8)
  /-- A reserved field or bit is not zero (spec 30_encoding R92). -/
  | reservedBits
  /-- `kind = 3` (spec 30_encoding R97). -/
  | illegalKind
  /-- `sel = 3` (spec 30_encoding R99). -/
  | illegalSel
  /-- The bits of a stream have no path in the trie (spec 42_huffman R204). -/
  | noPath
  /-- The bits of a stream end before a leaf (spec 42_huffman R208). -/
  | endOfInput
  /-- The leaf reached holds no run length of the table (no ROM of the spec has such a leaf). -/
  | noRow
  /-- The code table of the build has no ROM (spec 42_huffman R194). -/
  | noRom
  /-- Bits are left over after a code word. -/
  | trailingBits
deriving DecidableEq, Repr

/-- The fields of a command word (spec 30_encoding R90). -/
def fieldsOf (w : CmdWord) : RawCommand :=
  { op := w.extractLsb' 88 8, f := w.extractLsb' 80 8, n := w.extractLsb' 64 16,
    a := w.extractLsb' 32 32, b := w.extractLsb' 0 32 }

/-- `kind = f[1:0]` (spec 30_encoding R97). -/
def kindOf (k : BitVec 2) : Option Kind :=
  if k = 0 then some .uint else if k = 1 then some .sint else if k = 2 then some .float else none

/-- `sel = f[1:0]` (spec 30_encoding R99). -/
def selOf (k : BitVec 2) : Option Sel :=
  if k = 0 then some .w else if k = 1 then some .b else if k = 2 then some .cur else none

/-- `byteOrder = f[2]` (spec 30_encoding R100). -/
def orderOf (b : BitVec 1) : ByteOrder := if b = 0 then .le else .be

/-- Decoding of the fields, opcode by opcode (spec 30_encoding R91, R93, R94). -/
def decodeFields (r : RawCommand) : Except DecodeError Instr :=
  if r.op = 0x01 then
    if r.f.extractLsb' 2 6 ≠ 0 ∨ r.a ≠ 0 ∨ r.b ≠ 0 then .error .reservedBits
    else match kindOf (r.f.extractLsb' 0 2) with
      | some k => .ok (.resolve k r.n)
      | none => .error .illegalKind
  else if r.op = 0x02 then
    if r.f.extractLsb' 3 5 ≠ 0 then .error .reservedBits
    else match kindOf (r.f.extractLsb' 0 2) with
      | some k => .ok (.pcreate k r.n (orderOf (r.f.extractLsb' 2 1)) r.a r.b)
      | none => .error .illegalKind
  else if r.op = 0x03 then
    if r.f ≠ 0 ∨ r.n ≠ 0 then .error .reservedBits else .ok (.preverse r.a r.b)
  else if r.op = 0x10 then
    if r.f ≠ 0 ∨ r.n ≠ 0 then .error .reservedBits else .ok (.hregion r.a r.b)
  else if r.op = 0x11 then
    if r.f ≠ 0 ∨ r.n ≠ 0 ∨ r.a ≠ 0 ∨ r.b ≠ 0 then .error .reservedBits else .ok .hline
  else if r.op = 0x12 then
    if r.f.extractLsb' 2 6 ≠ 0 ∨ r.n ≠ 0 ∨ r.a ≠ 0 ∨ r.b ≠ 0 then .error .reservedBits
    else match selOf (r.f.extractLsb' 0 2) with
      | some k => .ok (.hnext k)
      | none => .error .illegalSel
  else .error (.illegalOpcode r.op)

/-- The command a 96-bit word stands for. -/
def decodeCommand (w : CmdWord) : Except DecodeError Instr := decodeFields (fieldsOf w)

/-- The code word of a colour and a run length (spec 30_encoding R103: terminating below 64, makeup a
multiple of 64). -/
def wordInstr (c : Color) (run : Nat) : Option Instr :=
  if run < 64 then (codeWords c)[run]?
  else if run % 64 = 0 then (codeWords c)[63 + run / 64]? else none

/-- The code word that begins a stream of bits, in the table a build has for a colour, and its length in bits
(spec 30_encoding R102: the decoder finds the length by walking the trie to a leaf; the colour is not
marked in the stream). -/
def decodeWord (tables : CodeTables) (c : Color) (bits : List Bool) : Except DecodeError (Instr × Nat) :=
  match rom tables c with
  | none => .error .noRom
  | some t =>
    match walk t bits with
    | .leaf run used =>
      match wordInstr c run with
      | some i => .ok (i, used)
      | none => .error .noRow
    | .noPath _ => .error .noPath
    | .endOfInput _ => .error .endOfInput

/-- What an instruction is encoded as: a command word, or a bit string of one colour's table. -/
inductive Encoded where
  | command (w : CmdWord)
  | code (c : Color) (bits : List Bool)
deriving DecidableEq, Repr

/-- Decoding of either in a build with these tables; a bit string must be one code word exactly. -/
def decode (tables : CodeTables) : Encoded → Except DecodeError Instr
  | .command w => decodeCommand w
  | .code c bits =>
    match decodeWord tables c bits with
    | .ok (i, used) => if used = bits.length then .ok i else .error .trailingBits
    | .error e => .error e

/-! The encoders, from the same tables of the spec. -/

/-- The `kind` field (spec 30_encoding R97). -/
def Kind.code : Kind → BitVec 2
  | .uint => 0
  | .sint => 1
  | .float => 2

/-- The `sel` field (spec 30_encoding R99). -/
def Sel.code : Sel → BitVec 2
  | .w => 0
  | .b => 1
  | .cur => 2

/-- The byte-order bit (spec 30_encoding R100). -/
def ByteOrder.code : ByteOrder → BitVec 1
  | .le => 0
  | .be => 1

/-- The colour bit (spec 30_encoding R100). -/
def Color.code : Color → BitVec 1
  | .white => 0
  | .black => 1

/-- The command word with these fields (spec 30_encoding R90). -/
def wordOf (r : RawCommand) : CmdWord := r.op ++ r.f ++ r.n ++ r.a ++ r.b

/-- The fields of a command (spec 30_encoding R91); a code word has none, and gets opcode 0, which is no
command's. -/
def commandFields : Instr → RawCommand
  | .resolve k bits => { op := 0x01, f := (0 : BitVec 6) ++ k.code, n := bits, a := 0, b := 0 }
  | .pcreate k bits order spp width =>
    { op := 0x02, f := (0 : BitVec 5) ++ order.code ++ k.code, n := bits, a := spp, b := width }
  | .preverse start stop => { op := 0x03, f := 0, n := 0, a := start, b := stop }
  | .hregion offset count => { op := 0x10, f := 0, n := 0, a := offset, b := count }
  | .hline => { op := 0x11, f := 0, n := 0, a := 0, b := 0 }
  | .hnext sel => { op := 0x12, f := (0 : BitVec 6) ++ sel.code, n := 0, a := 0, b := 0 }
  | _ => { op := 0, f := 0, n := 0, a := 0, b := 0 }

/-- The encoding of an instruction in a build with these tables. -/
def encode (tables : CodeTables) (i : Instr) : Encoded :=
  match i.codeWord? with
  | some (c, run) => .code c (patternOf tables c run)
  | none => .command (wordOf (commandFields i))

/-! The rows of spec/opcode_table.json by number. Its code words are those of the default tables (30_encoding R117). -/

/-- The code word whose pattern is exactly the `len` low bits of `w`; the WHITE table is tried first. -/
def codeOfLength (w len : Nat) : Option (Color × Instr) :=
  match decodeWord .standard .white (toBits len w), decodeWord .standard .black (toBits len w) with
  | .ok (i, used), r =>
    if used = len then some (.white, i)
    else match r with
      | .ok (j, used') => if used' = len then some (.black, j) else none
      | .error _ => none
  | .error _, .ok (j, used') => if used' = len then some (.black, j) else none
  | .error _, .error _ => none

/-- The code word a table number of `nbits` bits stands for, with its colour and length. The table gives a
code word's pattern no colour and no byte layout, so the length is the largest of `nbits`, `nbits - 1`, ...
(`tries` of them) for which the number is a code word; log entry 13. -/
def findCode (w : Nat) : Nat → Nat → Option (Color × Nat × Instr)
  | 0, _ => none
  | tries + 1, len =>
    if w < 2 ^ len then
      match codeOfLength w len with
      | some (c, i) => some (c, len, i)
      | none => findCode w tries (len - 1)
    else none

/-- The code word of a table number whose row takes at most 16 bits. -/
def tableCode (nbits w : Nat) : Option (Color × Nat × Instr) := findCode w 8 nbits

/-- The instruction the decoder reads from a row of spec/opcode_table.json: a row of at most 16 bits is a
code word, any other a command word (spec 30_encoding R117). -/
def decodeTableWord (nbits w : Nat) : Option Instr :=
  if nbits ≤ 16 then (tableCode nbits w).map fun x => x.2.2
  else match decodeCommand (BitVec.ofNat 96 w) with
    | .ok i => some i
    | .error _ => none

end Sys2Proof
end

