-- ==== Sys2Proof/Machine/State.lean ====
section
/-! DEFINITION. The state of one core, the two memories, and what the host is about to do; the reasons a step can stop;
the state after reset. -/

namespace Sys2Proof.Machine

/-- Status codes of a response (spec 30_encoding R96). -/
inductive Status where
  | ok
  | unsupported
  | geometry
  | corrupt
  | endOfInput
  | overflow
  | range
  | notReady
  | illegalCommand
deriving DecidableEq, Repr

/-- The six sample arithmetic kinds (spec 10_state R24, 40_resolver R144). -/
inductive Variant where
  | i8
  | i16
  | i32
  | i64
  | f32
  | f64
deriving DecidableEq, Repr

/-- A response (spec 30_encoding R95); `Response.word` is its 48-bit word. -/
structure Response where
  st : Status
  aux : BitVec 8
  r : Word
deriving DecidableEq, Repr

/-- A touch of a memory by the host (spec 20_memory R61, R62, R79). -/
inductive HostTouch where
  | readBuf (pos count : Nat)
  | writeBuf (pos : Nat) (bytes : List Byte)
  | readIn (offset count : Nat)
  | writeIn (offset : Nat) (bytes : List Byte)
deriving DecidableEq, Repr

/-- What the host does between the issue of a command and its response (spec 70_reset R276): a touch of
memory is allowed outside the command's region, the other two are breaches of duty. -/
inductive Meanwhile where
  | touch (t : HostTouch)
  | command (w : CmdWord)
  | reset
deriving DecidableEq, Repr

/-- One thing the host does (spec 70_reset R276). -/
inductive HostEvent where
  /-- Reset, between commands. -/
  | reset
  /-- A touch of memory, between commands. -/
  | touch (t : HostTouch)
  /-- A command word, with what the host does before the response. -/
  | command (w : CmdWord) (meanwhile : List Meanwhile)
deriving DecidableEq, Repr

/-- The registers of the predictor unit (spec 10_state R23 to R33). -/
structure PU where
  /-- R23. -/
  pvalid : Bool
  /-- R24. -/
  variant : Variant
  /-- R24, 40_resolver R142: read by no rule. -/
  sgn : Bool
  /-- R25: 1, 2, 4 or 8 in an instance. -/
  sampleSize : BitVec 4
  /-- R26. -/
  byteOrder : ByteOrder
  /-- R27. -/
  samplesPerPixel : Word
  /-- R27. -/
  pixelWidth : Word
  /-- R28. -/
  pixelStride : Word
  /-- R28. -/
  scanlineStride : Word
  /-- R30. -/
  column : Word
  /-- The carry buffer (R31, R42), one entry per band; an entry that is absent reads as zero. -/
  saved : List Sample
deriving DecidableEq, Repr

/-- The registers of the Huffman unit (spec 10_state R34 to R40). -/
structure HU where
  /-- R34. -/
  hvalid : Bool
  /-- R35. -/
  color : Color
  /-- R36. -/
  acc : Word
  /-- R37. -/
  hfault : Bool
  /-- R37. -/
  hcause : Status
  /-- R38. -/
  rstart : Word
  /-- R38. -/
  rcount : Word
  /-- R39: in bits, `0 .. 8 * rcount`. -/
  bitcur : Nat
  /-- R40, the walk pointer `node`: `some c` inside an `HNEXT`, at the start of a word, the pointer at the
  root of the trie of `c`; `none` between commands. -/
  walk : Option Color
deriving DecidableEq, Repr

/-- The state. `cfg`, `rsp` and `inbox` are the model's own fields: the parameters of the build (spec
10_state R46), the last response given (an output, R46) and what the host is about to do, oldest first. -/
structure State where
  pu : PU
  hu : HU
  /-- `BUF` (spec 20_memory R61): the bytes written since power-on, addresses strictly rising. -/
  buf : List Host.Cell
  /-- `IN` (spec 20_memory R62), in the same form. -/
  inp : List Host.Cell
  cfg : Params
  rsp : Option Response
  inbox : List HostEvent
deriving DecidableEq, Repr

/-- Why the machine stops: an access to an address that does not exist. -/
inductive Fault where
  /-- The host names a byte outside `BUF` (`applyTouch`). Safe: no true claim about such a run is lost but
  its continuation; the spec gives `BUF` only the addresses `0 .. BUF_SIZE - 1` (20_memory R61). -/
  | noSuchBufAddress
  /-- The host names a byte outside `IN` (`applyTouch`), or the input region reaches outside `IN` when a
  code word is to be read (`execHnext`, `fetchWord`), which `HREGION` never lets happen (42_huffman R198).
  Safe, as above (20_memory R62). -/
  | noSuchInAddress
deriving DecidableEq, Repr

/-- Why a run has no meaning: the host broke a duty that the hardware cannot detect (spec 00_scope R15,
93 U6), or there is no such hardware (93 U19). All are safe: the model stops where the hardware goes on. -/
inductive Refusal where
  /-- An instruction without a meaning; no arm of `exec` answers so. -/
  | notModelled (mnemonic : String)
  /-- The host touched the region of a running command (20_memory R79); raised by `fetchCommand`. -/
  | hostTouchedRegion
  /-- The host issued a command before the response to the one before (70_reset R276); `fetchCommand`. -/
  | commandBeforeResponse
  /-- The host asserted reset during a command (70_reset R260); `fetchCommand`. -/
  | resetDuringCommand
  /-- The build has no trie for the table that is to be read: its code table collides, or does not fit a ROM, or lacks the
  word (42_huffman R194: there is then no hardware; 93 U19: refuse). Raised by `execHnext`, `fetchWord` and
  `runWord`; `Params.wellFormed` excludes it, and the default tables never raise it. -/
  | noHardware
deriving DecidableEq, Repr

/-- The PU after reset and after a failed `PCREATE` (spec 10_state R47, 40_resolver R148). The spec states
`pvalid`, `column` and `saved`; the others are unspecified and unread while `pvalid = 0`: zero, DESIGN
CHOICE, log entry 2. -/
def PU.reset : PU :=
  { pvalid := false, variant := .i8, sgn := false, sampleSize := 0, byteOrder := .le,
    samplesPerPixel := 0, pixelWidth := 0, pixelStride := 0, scanlineStride := 0,
    column := 0, saved := [] }

/-- The HU after reset (spec 10_state R47); `hcause` is unspecified and unread while `hfault = 0`: `OK`,
DESIGN CHOICE, log entry 2. -/
def HU.reset : HU :=
  { hvalid := false, color := .white, acc := 0, hfault := false, hcause := .ok,
    rstart := 0, rcount := 0, bitcur := 0, walk := none }

/-- The machine right after power-on reset of a build with parameters `p`: the memories hold what they
hold (spec 70_reset R262), no response has been given, the host has done nothing. -/
def State.resetOf (p : Params) : State :=
  { pu := PU.reset, hu := HU.reset, buf := [], inp := [], cfg := p, rsp := none, inbox := [] }

/-- The machine right after reset, of the build with the parameters of the spec's vectors (log entry 1). -/
def State.reset : State := State.resetOf Params.ofVectors

end Sys2Proof.Machine
end

