-- ==== Sys2Proof/Machine/Flags.lean ====
section
/-! DEFINITION. Status codes, response words and the one-bit status registers. The core has no condition codes and no
arithmetic flags (spec 10_state R41, 41_predictor R174): no operation of this file records one. -/

namespace Sys2Proof.Machine

/-- The code of a status (spec 30_encoding R96). -/
def Status.code : Status → BitVec 8
  | .ok => 0
  | .unsupported => 1
  | .geometry => 2
  | .corrupt => 3
  | .endOfInput => 4
  | .overflow => 5
  | .range => 6
  | .notReady => 7
  | .illegalCommand => 8

/-- The response word `st aux r` (spec 30_encoding R95). -/
def Response.word (p : Response) : BitVec 48 := p.st.code ++ p.aux ++ p.r

/-- The resolver's result in `aux` (spec 30_encoding R98): `0 0 isSigned isFloat sampleSize[3:0]`. -/
def resolverAux (size : BitVec 4) (isFloat isSigned : Bool) : BitVec 8 :=
  (0 : BitVec 2) ++ BitVec.ofBool isSigned ++ BitVec.ofBool isFloat ++ size

/-- The colour in `aux[0]` (spec 30_encoding R95, R100). -/
def colorAux (c : Color) : BitVec 8 := (0 : BitVec 7) ++ c.code

/-- The other colour: what a successful `HNEXT` does to `color` (spec 10_state R35, 42_huffman R205). -/
def Color.flip : Color → Color
  | .white => .black
  | .black => .white

end Sys2Proof.Machine
end

