-- ==== Sys2Proof/Machine/Ops.lean ====
section
/-! DEFINITION. The named operations over the memories and the registers, and answering a command: with a result, or with
a fault. A fault of the spec is a response with a non-zero status, after which the machine goes on (spec
60_exceptions R230): there is no vector, no saved state and no return (R230, R244). -/

namespace Sys2Proof.Machine

/-! ### Memory

A memory lists the bytes written since power-on, addresses strictly rising. An unlisted address has not
been written; what it reads as is `Config.powerOnByte` (log entry 5). -/

/-- The byte listed at an address. -/
def memGet? : List Host.Cell → Nat → Option Byte
  | [], _ => none
  | (k, v) :: t, a => if a < k then none else if a = k then some v else memGet? t a

/-- A memory with one byte written. -/
def memSet : List Host.Cell → Nat → Byte → List Host.Cell
  | [], a, b => [(a, b)]
  | (k, v) :: t, a, b =>
    if a < k then (a, b) :: (k, v) :: t else if a = k then (a, b) :: t else (k, v) :: memSet t a b

/-- Addresses are at least `lo` and strictly rising. -/
def memRising : Nat → List Host.Cell → Bool
  | _, [] => true
  | lo, (k, _) :: t => decide (lo ≤ k) && memRising (k + 1) t

/-- The canonical form of a memory. -/
def memWf (m : List Host.Cell) : Bool := memRising 0 m

/-- Every listed address is below the size. -/
def memInside (size : Nat) (m : List Host.Cell) : Bool := m.all fun c => decide (c.1 < size)

/-- The byte at an address: what was last written there, or the free power-on byte (spec 70_reset R262). -/
def readByte (sp : Space) (m : List Host.Cell) (a : Nat) : Byte :=
  (memGet? m a).getD (Config.powerOnByte sp a)

/-- `MemRead` (spec 20_memory R61): `n` bytes, lowest address first. -/
def readBytes (sp : Space) (m : List Host.Cell) : Nat → Nat → List Byte
  | _, 0 => []
  | a, n + 1 => readByte sp m a :: readBytes sp m (a + 1) n

/-- `MemWrite` (spec 20_memory R61). -/
def writeBytes : List Host.Cell → Nat → List Byte → List Host.Cell
  | m, _, [] => m
  | m, a, b :: bs => writeBytes (memSet m a b) (a + 1) bs

/-! ### Registers of the carry buffer -/

/-- `saved[band]` (spec 10_state R31); an absent entry is zero (log entry 6). -/
def savedGet (saved : List Sample) (band : Nat) : Sample := saved.getD band 0

/-- `saved[band] <- v`. -/
def savedSet (saved : List Sample) (band : Nat) (v : Sample) : List Sample := saved.set band v

/-! ### Answering a command -/

/-- The response word is given to the host (spec 30_encoding R95). -/
def respond (st : Status) (aux : BitVec 8) (r : Word) (s : State) : State :=
  { s with rsp := some { st := st, aux := aux, r := r } }

/-- `return v`: the command ends with status `OK` (spec 00_scope R14). -/
def answer (aux : BitVec 8) (r : Word) (s : State) : Host.Outcome State Fault Refusal :=
  .next (respond .ok aux r s)

/-- `raise st`: the command ends at once with that status and nothing beyond the code is recorded, `aux = 0`
and `r = 0` (spec 00_scope R14, 30_encoding R95, 60_exceptions R230, R242). The one operation by which a fault
is taken; what else the fault changes is in the state given to it. -/
def raise (st : Status) (s : State) : Host.Outcome State Fault Refusal :=
  .next (respond st 0 0 s)

/-- `bitcur` moved over the bits read (spec 20_memory R72, 10_state R39). -/
def advanceBits (used : Nat) (s : State) : State :=
  { s with hu := { s.hu with bitcur := s.hu.bitcur + used } }

/-- `fail(code)` inside `HNEXT` (spec 42_huffman R202, R209, R210): the fault is latched, `acc` is the sum of the
makeup values read before it and is returned in `r`, the command is over. -/
def huFail (st : Status) (acc : Nat) (s : State) : State :=
  respond st 0 (BitVec.ofNat 32 acc)
    { s with hu := { s.hu with hfault := true, hcause := st, acc := BitVec.ofNat 32 acc, walk := none } }

/-- A terminating leaf ends the run (spec 42_huffman R205): `acc` cleared, `color` complemented, the run length
returned with the new colour; the command is over. -/
def huFinish (run : Nat) (s : State) : State :=
  respond .ok (colorAux (Color.flip s.hu.color)) (BitVec.ofNat 32 run)
    { s with hu := { s.hu with acc := 0, color := Color.flip s.hu.color, walk := none } }

/-- A repeat of a latched fault (spec 42_huffman R209, 30_encoding R95): `r = acc`, nothing else changes. -/
def raiseSticky (s : State) : Host.Outcome State Fault Refusal :=
  .next (respond s.hu.hcause 0 s.hu.acc s)

/-! ### What the host does to the memories -/

/-- Every byte a touch names exists (spec 20_memory R61, R62). -/
def touchFault? (cfg : Params) : HostTouch → Option Fault
  | .readBuf pos count => if pos + count ≤ cfg.bufSize.toNat then none else some .noSuchBufAddress
  | .writeBuf pos bytes => if pos + bytes.length ≤ cfg.bufSize.toNat then none else some .noSuchBufAddress
  | .readIn offset count => if offset + count ≤ cfg.inSize.toNat then none else some .noSuchInAddress
  | .writeIn offset bytes => if offset + bytes.length ≤ cfg.inSize.toNat then none else some .noSuchInAddress

/-- The state after a touch whose bytes exist; a read changes nothing (spec 20_memory R71). -/
def touchState (s : State) : HostTouch → State
  | .readBuf _ _ => s
  | .writeBuf pos bytes => { s with buf := writeBytes s.buf pos bytes }
  | .readIn _ _ => s
  | .writeIn offset bytes => { s with inp := writeBytes s.inp offset bytes }

/-- A touch of a memory by the host. -/
def applyTouch (t : HostTouch) (s : State) : Host.Outcome State Fault Refusal :=
  match touchFault? s.cfg t with
  | some f => .fault f
  | none => .next (touchState s t)

/-- The reset signal between commands (spec 70_reset R260, R262): every register at its reset value, the
memories untouched; it returns nothing (R276), so no response stands. -/
def hostReset (s : State) : State :=
  { s with pu := PU.reset, hu := HU.reset, rsp := none }

end Sys2Proof.Machine
end

