-- ==== Sys2Proof/Machine/Operands.lean ====
section
/-! DEFINITION. The operand forms: samples of `BUF` in either byte order (spec 20_memory R65 to R67) and bits of `IN` (spec
20_memory R72, R73). Fields of a command word are used as they are (spec 30_encoding R101). -/

namespace Sys2Proof.Machine

/-- Bytes in memory order from bytes with the least significant first, or the reverse way (spec 20_memory
R65, R67: `LE` has the least significant byte at the lowest address, `BE` the most significant). -/
def orderBytes : ByteOrder → List Byte → List Byte
  | .le, bytes => bytes
  | .be, bytes => bytes.reverse

/-- The number whose bytes, least significant first, these are. -/
def leNat : List Byte → Nat
  | [] => 0
  | b :: bs => b.toNat + 256 * leNat bs

/-- The `n` low bytes of a number, least significant first. -/
def leBytes : Nat → Nat → List Byte
  | 0, _ => []
  | n + 1, v => BitVec.ofNat 8 v :: leBytes n (v / 256)

/-- `LoadSample(pos)` for samples of `size` bytes (spec 20_memory R65): no extension, the bits above the
sample are zero. -/
def loadSample (order : ByteOrder) (size : Nat) (m : List Host.Cell) (pos : Nat) : Sample :=
  BitVec.ofNat 64 (leNat (orderBytes order (readBytes .buf m pos size)))

/-- `StoreSample(pos, v)` (spec 20_memory R66): exactly `size` bytes are written. -/
def storeSample (order : ByteOrder) (size : Nat) (m : List Host.Cell) (pos : Nat) (v : Sample) :
    List Host.Cell :=
  writeBytes m pos (orderBytes order (leBytes size v.toNat))

/-- Bit `n` of the input region (spec 20_memory R72): bit `7 - n mod 8` of byte `rstart + n div 8`. -/
def bitAt (m : List Host.Cell) (rstart n : Nat) : Bool :=
  (readByte .inp m (rstart + n / 8)).getLsbD (7 - n % 8)

/-- Bits `n`, `n + 1`, ... of the input region, `count` of them, in the order `ReadBit` returns them. -/
def bitsFrom (m : List Host.Cell) (rstart : Nat) : Nat → Nat → List Bool
  | _, 0 => []
  | n, count + 1 => bitAt m rstart n :: bitsFrom m rstart (n + 1) count

/-- The bits `ReadBit` has still to return, from `bitcur` to the end of the region `8 * rcount`; when none is
left, `ReadBit` raises `END_OF_INPUT` (spec 20_memory R72, R73). -/
def unreadBits (s : State) : List Bool :=
  bitsFrom s.inp s.hu.rstart.toNat s.hu.bitcur (8 * s.hu.rcount.toNat - s.hu.bitcur)

/-- The input region lies inside `IN` (spec 20_memory R62). -/
def regionInside (s : State) : Bool :=
  decide (s.hu.rstart.toNat + s.hu.rcount.toNat ≤ s.cfg.inSize.toNat)

end Sys2Proof.Machine
end

