-- ==== Sys2Proof/Machine/Huffman.lean ====
section
/-! DEFINITION. The Huffman unit: `HREGION`, `HLINE`, `HNEXT`, and the step that one code word is (spec 42_huffman). -/

namespace Sys2Proof.Machine

/-- Largest value of the accumulator (spec 00_scope R11, 42_huffman R207). -/
def accMax : Nat := 2 ^ 32 - 1

/-- How an `HNEXT` ends, with the number of bits read. -/
inductive RunEnd where
  /-- A terminating word ended the run (spec 42_huffman R205). -/
  | done (run used : Nat)
  /-- A fault; `acc` is the sum of the makeup values before it (R210). -/
  | failed (st : Status) (acc used : Nat)
deriving DecidableEq, Repr

/-- The loop of `HNEXT` with its walks, bit by bit (spec 42_huffman R202, R203): `node` is the walk pointer, set
back to the root 0 after a makeup leaf. `decodeRun_eq_walk` of Laws/Huffman.lean gives it the shape of R202. -/
def decodeRun (t : List RomEntry) : Nat → Nat → Nat → List Bool → RunEnd
  | _, acc, used, [] => .failed .endOfInput acc used
  | node, acc, used, bit :: rest =>
    match lookupStep t node bit with
    | .absent => .failed .corrupt acc (used + 1)
    | .node next => decodeRun t next acc (used + 1) rest
    | .leaf v =>
      if acc + v > accMax then .failed .overflow acc (used + 1)
      else if v < 64 then .done (acc + v) (used + 1)
      else decodeRun t 0 (acc + v) (used + 1) rest

/-- The trie a selector names (spec 42_huffman R201). -/
def selColor (color : Color) : Sel → Color
  | .w => .white
  | .b => .black
  | .cur => color

/-- `HREGION offset, count` (spec 42_huffman R198). -/
def execHregion (offset count : Word) (s : State) : Host.Outcome State Fault Refusal :=
  if offset.toNat + count.toNat > s.cfg.inSize.toNat then raise .range s
  else answer 0 0
    { s with hu := { s.hu with rstart := offset, rcount := count, bitcur := 0, color := .white, acc := 0,
                               hfault := false, hvalid := true } }

/-- `HLINE` (spec 42_huffman R199). -/
def execHline (s : State) : Host.Outcome State Fault Refusal :=
  if !s.hu.hvalid then raise .notReady s
  else if s.hu.hfault then raiseSticky s
  else answer (colorAux .white) 0 { s with hu := { s.hu with color := .white, acc := 0 } }

/-- `HNEXT sel` (spec 42_huffman R200 to R210), one whole run. -/
def execHnext (sel : Sel) (s : State) : Host.Outcome State Fault Refusal :=
  if !s.hu.hvalid then raise .notReady s
  else if s.hu.hfault then raiseSticky s
  else if !regionInside s then .fault .noSuchInAddress
  else
    match rom s.cfg.tables (selColor s.hu.color sel) with
    | none => .refused .noHardware
    | some t =>
      match decodeRun t 0 0 0 (unreadBits s) with
      | .done run used => .next (huFinish run (advanceBits used s))
      | .failed st acc used => .next (huFail st acc (advanceBits used s))

/-- The body of the loop of spec 42_huffman R202 for a leaf of value `run` reached after `len` bits: the bits are consumed
(R203), the value is added to `acc` or `OVERFLOW` is raised (R207), a terminating word ends the run (R205), a makeup
word goes on with the next walk (R206). -/
def addRun (run len : Nat) (s : State) : State :=
  let s' := advanceBits len s
  let acc := s.hu.acc.toNat
  if acc + run > accMax then huFail .overflow acc s'
  else if run < 64 then huFinish (acc + run) s'
  else { s' with hu := { s'.hu with acc := BitVec.ofNat 32 (acc + run) } }

/-- One code word inside an `HNEXT`: the word of a colour and a run length, with as many bits as its entry has in the
table of the build. -/
def runWord (c : Color) (run : Nat) (s : State) : Host.Outcome State Fault Refusal :=
  match codeRow? s.cfg.tables c run with
  | none => .refused .noHardware
  | some row => .next (addRun run row.len s)

end Sys2Proof.Machine
end

