-- ==== Sys2Proof/Machine/BlackWords.lean ====
section
/-! DEFINITION. The meanings of the BLACK code words: each is the body of the `HNEXT` loop for that word (spec 42_huffman R202, R205
to R207), with the run length of its row (spec 31_code_tables R128, R129) and the number of bits that row has in the table of the
build (spec 00_scope R9). -/

namespace Sys2Proof.Machine

/-- `MHB.0`, by default the pattern `0000110111`. -/
def execMhb0 (s : State) : Host.Outcome State Fault Refusal := runWord .black 0 s

/-- `MHB.1`, by default the pattern `010`. -/
def execMhb1 (s : State) : Host.Outcome State Fault Refusal := runWord .black 1 s

/-- `MHB.2`, by default the pattern `11`. -/
def execMhb2 (s : State) : Host.Outcome State Fault Refusal := runWord .black 2 s

/-- `MHB.3`, by default the pattern `10`. -/
def execMhb3 (s : State) : Host.Outcome State Fault Refusal := runWord .black 3 s

/-- `MHB.4`, by default the pattern `011`. -/
def execMhb4 (s : State) : Host.Outcome State Fault Refusal := runWord .black 4 s

/-- `MHB.5`, by default the pattern `0011`. -/
def execMhb5 (s : State) : Host.Outcome State Fault Refusal := runWord .black 5 s

/-- `MHB.6`, by default the pattern `0010`. -/
def execMhb6 (s : State) : Host.Outcome State Fault Refusal := runWord .black 6 s

/-- `MHB.7`, by default the pattern `00011`. -/
def execMhb7 (s : State) : Host.Outcome State Fault Refusal := runWord .black 7 s

/-- `MHB.8`, by default the pattern `000101`. -/
def execMhb8 (s : State) : Host.Outcome State Fault Refusal := runWord .black 8 s

/-- `MHB.9`, by default the pattern `000100`. -/
def execMhb9 (s : State) : Host.Outcome State Fault Refusal := runWord .black 9 s

/-- `MHB.10`, by default the pattern `0000100`. -/
def execMhb10 (s : State) : Host.Outcome State Fault Refusal := runWord .black 10 s

/-- `MHB.11`, by default the pattern `0000101`. -/
def execMhb11 (s : State) : Host.Outcome State Fault Refusal := runWord .black 11 s

/-- `MHB.12`, by default the pattern `0000111`. -/
def execMhb12 (s : State) : Host.Outcome State Fault Refusal := runWord .black 12 s

/-- `MHB.13`, by default the pattern `00000100`. -/
def execMhb13 (s : State) : Host.Outcome State Fault Refusal := runWord .black 13 s

/-- `MHB.14`, by default the pattern `00000111`. -/
def execMhb14 (s : State) : Host.Outcome State Fault Refusal := runWord .black 14 s

/-- `MHB.15`, by default the pattern `000011000`. -/
def execMhb15 (s : State) : Host.Outcome State Fault Refusal := runWord .black 15 s

/-- `MHB.16`, by default the pattern `0000010111`. -/
def execMhb16 (s : State) : Host.Outcome State Fault Refusal := runWord .black 16 s

/-- `MHB.17`, by default the pattern `0000011000`. -/
def execMhb17 (s : State) : Host.Outcome State Fault Refusal := runWord .black 17 s

/-- `MHB.18`, by default the pattern `0000001000`. -/
def execMhb18 (s : State) : Host.Outcome State Fault Refusal := runWord .black 18 s

/-- `MHB.19`, by default the pattern `00001100111`. -/
def execMhb19 (s : State) : Host.Outcome State Fault Refusal := runWord .black 19 s

/-- `MHB.20`, by default the pattern `00001101000`. -/
def execMhb20 (s : State) : Host.Outcome State Fault Refusal := runWord .black 20 s

/-- `MHB.21`, by default the pattern `00001101100`. -/
def execMhb21 (s : State) : Host.Outcome State Fault Refusal := runWord .black 21 s

/-- `MHB.22`, by default the pattern `00000110111`. -/
def execMhb22 (s : State) : Host.Outcome State Fault Refusal := runWord .black 22 s

/-- `MHB.23`, by default the pattern `00000101000`. -/
def execMhb23 (s : State) : Host.Outcome State Fault Refusal := runWord .black 23 s

/-- `MHB.24`, by default the pattern `00000010111`. -/
def execMhb24 (s : State) : Host.Outcome State Fault Refusal := runWord .black 24 s

/-- `MHB.25`, by default the pattern `00000011000`. -/
def execMhb25 (s : State) : Host.Outcome State Fault Refusal := runWord .black 25 s

/-- `MHB.26`, by default the pattern `000011001010`. -/
def execMhb26 (s : State) : Host.Outcome State Fault Refusal := runWord .black 26 s

/-- `MHB.27`, by default the pattern `000011001011`. -/
def execMhb27 (s : State) : Host.Outcome State Fault Refusal := runWord .black 27 s

/-- `MHB.28`, by default the pattern `000011001100`. -/
def execMhb28 (s : State) : Host.Outcome State Fault Refusal := runWord .black 28 s

/-- `MHB.29`, by default the pattern `000011001101`. -/
def execMhb29 (s : State) : Host.Outcome State Fault Refusal := runWord .black 29 s

/-- `MHB.30`, by default the pattern `000001101000`. -/
def execMhb30 (s : State) : Host.Outcome State Fault Refusal := runWord .black 30 s

/-- `MHB.31`, by default the pattern `000001101001`. -/
def execMhb31 (s : State) : Host.Outcome State Fault Refusal := runWord .black 31 s

/-- `MHB.32`, by default the pattern `000001101010`. -/
def execMhb32 (s : State) : Host.Outcome State Fault Refusal := runWord .black 32 s

/-- `MHB.33`, by default the pattern `000001101011`. -/
def execMhb33 (s : State) : Host.Outcome State Fault Refusal := runWord .black 33 s

/-- `MHB.34`, by default the pattern `000011010010`. -/
def execMhb34 (s : State) : Host.Outcome State Fault Refusal := runWord .black 34 s

/-- `MHB.35`, by default the pattern `000011010011`. -/
def execMhb35 (s : State) : Host.Outcome State Fault Refusal := runWord .black 35 s

/-- `MHB.36`, by default the pattern `000011010100`. -/
def execMhb36 (s : State) : Host.Outcome State Fault Refusal := runWord .black 36 s

/-- `MHB.37`, by default the pattern `000011010101`. -/
def execMhb37 (s : State) : Host.Outcome State Fault Refusal := runWord .black 37 s

/-- `MHB.38`, by default the pattern `000011010110`. -/
def execMhb38 (s : State) : Host.Outcome State Fault Refusal := runWord .black 38 s

/-- `MHB.39`, by default the pattern `000011010111`. -/
def execMhb39 (s : State) : Host.Outcome State Fault Refusal := runWord .black 39 s

/-- `MHB.40`, by default the pattern `000001101100`. -/
def execMhb40 (s : State) : Host.Outcome State Fault Refusal := runWord .black 40 s

/-- `MHB.41`, by default the pattern `000001101101`. -/
def execMhb41 (s : State) : Host.Outcome State Fault Refusal := runWord .black 41 s

/-- `MHB.42`, by default the pattern `000011011010`. -/
def execMhb42 (s : State) : Host.Outcome State Fault Refusal := runWord .black 42 s

/-- `MHB.43`, by default the pattern `000011011011`. -/
def execMhb43 (s : State) : Host.Outcome State Fault Refusal := runWord .black 43 s

/-- `MHB.44`, by default the pattern `000001010100`. -/
def execMhb44 (s : State) : Host.Outcome State Fault Refusal := runWord .black 44 s

/-- `MHB.45`, by default the pattern `000001010101`. -/
def execMhb45 (s : State) : Host.Outcome State Fault Refusal := runWord .black 45 s

/-- `MHB.46`, by default the pattern `000001010110`. -/
def execMhb46 (s : State) : Host.Outcome State Fault Refusal := runWord .black 46 s

/-- `MHB.47`, by default the pattern `000001010111`. -/
def execMhb47 (s : State) : Host.Outcome State Fault Refusal := runWord .black 47 s

/-- `MHB.48`, by default the pattern `000001100100`. -/
def execMhb48 (s : State) : Host.Outcome State Fault Refusal := runWord .black 48 s

/-- `MHB.49`, by default the pattern `000001100101`. -/
def execMhb49 (s : State) : Host.Outcome State Fault Refusal := runWord .black 49 s

/-- `MHB.50`, by default the pattern `000001010010`. -/
def execMhb50 (s : State) : Host.Outcome State Fault Refusal := runWord .black 50 s

/-- `MHB.51`, by default the pattern `000001010011`. -/
def execMhb51 (s : State) : Host.Outcome State Fault Refusal := runWord .black 51 s

/-- `MHB.52`, by default the pattern `000000100100`. -/
def execMhb52 (s : State) : Host.Outcome State Fault Refusal := runWord .black 52 s

/-- `MHB.53`, by default the pattern `000000110111`. -/
def execMhb53 (s : State) : Host.Outcome State Fault Refusal := runWord .black 53 s

/-- `MHB.54`, by default the pattern `000000111000`. -/
def execMhb54 (s : State) : Host.Outcome State Fault Refusal := runWord .black 54 s

/-- `MHB.55`, by default the pattern `000000100111`. -/
def execMhb55 (s : State) : Host.Outcome State Fault Refusal := runWord .black 55 s

/-- `MHB.56`, by default the pattern `000000101000`. -/
def execMhb56 (s : State) : Host.Outcome State Fault Refusal := runWord .black 56 s

/-- `MHB.57`, by default the pattern `000001011000`. -/
def execMhb57 (s : State) : Host.Outcome State Fault Refusal := runWord .black 57 s

/-- `MHB.58`, by default the pattern `000001011001`. -/
def execMhb58 (s : State) : Host.Outcome State Fault Refusal := runWord .black 58 s

/-- `MHB.59`, by default the pattern `000000101011`. -/
def execMhb59 (s : State) : Host.Outcome State Fault Refusal := runWord .black 59 s

/-- `MHB.60`, by default the pattern `000000101100`. -/
def execMhb60 (s : State) : Host.Outcome State Fault Refusal := runWord .black 60 s

/-- `MHB.61`, by default the pattern `000001011010`. -/
def execMhb61 (s : State) : Host.Outcome State Fault Refusal := runWord .black 61 s

/-- `MHB.62`, by default the pattern `000001100110`. -/
def execMhb62 (s : State) : Host.Outcome State Fault Refusal := runWord .black 62 s

/-- `MHB.63`, by default the pattern `000001100111`. -/
def execMhb63 (s : State) : Host.Outcome State Fault Refusal := runWord .black 63 s

/-- `MHB.64`, by default the pattern `0000001111`. -/
def execMhb64 (s : State) : Host.Outcome State Fault Refusal := runWord .black 64 s

/-- `MHB.128`, by default the pattern `000011001000`. -/
def execMhb128 (s : State) : Host.Outcome State Fault Refusal := runWord .black 128 s

/-- `MHB.192`, by default the pattern `000011001001`. -/
def execMhb192 (s : State) : Host.Outcome State Fault Refusal := runWord .black 192 s

/-- `MHB.256`, by default the pattern `000001011011`. -/
def execMhb256 (s : State) : Host.Outcome State Fault Refusal := runWord .black 256 s

/-- `MHB.320`, by default the pattern `000000110011`. -/
def execMhb320 (s : State) : Host.Outcome State Fault Refusal := runWord .black 320 s

/-- `MHB.384`, by default the pattern `000000110100`. -/
def execMhb384 (s : State) : Host.Outcome State Fault Refusal := runWord .black 384 s

/-- `MHB.448`, by default the pattern `000000110101`. -/
def execMhb448 (s : State) : Host.Outcome State Fault Refusal := runWord .black 448 s

/-- `MHB.512`, by default the pattern `0000001101100`. -/
def execMhb512 (s : State) : Host.Outcome State Fault Refusal := runWord .black 512 s

/-- `MHB.576`, by default the pattern `0000001101101`. -/
def execMhb576 (s : State) : Host.Outcome State Fault Refusal := runWord .black 576 s

/-- `MHB.640`, by default the pattern `0000001001010`. -/
def execMhb640 (s : State) : Host.Outcome State Fault Refusal := runWord .black 640 s

/-- `MHB.704`, by default the pattern `0000001001011`. -/
def execMhb704 (s : State) : Host.Outcome State Fault Refusal := runWord .black 704 s

/-- `MHB.768`, by default the pattern `0000001001100`. -/
def execMhb768 (s : State) : Host.Outcome State Fault Refusal := runWord .black 768 s

/-- `MHB.832`, by default the pattern `0000001001101`. -/
def execMhb832 (s : State) : Host.Outcome State Fault Refusal := runWord .black 832 s

/-- `MHB.896`, by default the pattern `0000001110010`. -/
def execMhb896 (s : State) : Host.Outcome State Fault Refusal := runWord .black 896 s

/-- `MHB.960`, by default the pattern `0000001110011`. -/
def execMhb960 (s : State) : Host.Outcome State Fault Refusal := runWord .black 960 s

/-- `MHB.1024`, by default the pattern `0000001110100`. -/
def execMhb1024 (s : State) : Host.Outcome State Fault Refusal := runWord .black 1024 s

/-- `MHB.1088`, by default the pattern `0000001110101`. -/
def execMhb1088 (s : State) : Host.Outcome State Fault Refusal := runWord .black 1088 s

/-- `MHB.1152`, by default the pattern `0000001110110`. -/
def execMhb1152 (s : State) : Host.Outcome State Fault Refusal := runWord .black 1152 s

/-- `MHB.1216`, by default the pattern `0000001110111`. -/
def execMhb1216 (s : State) : Host.Outcome State Fault Refusal := runWord .black 1216 s

/-- `MHB.1280`, by default the pattern `0000001010010`. -/
def execMhb1280 (s : State) : Host.Outcome State Fault Refusal := runWord .black 1280 s

/-- `MHB.1344`, by default the pattern `0000001010011`. -/
def execMhb1344 (s : State) : Host.Outcome State Fault Refusal := runWord .black 1344 s

/-- `MHB.1408`, by default the pattern `0000001010100`. -/
def execMhb1408 (s : State) : Host.Outcome State Fault Refusal := runWord .black 1408 s

/-- `MHB.1472`, by default the pattern `0000001010101`. -/
def execMhb1472 (s : State) : Host.Outcome State Fault Refusal := runWord .black 1472 s

/-- `MHB.1536`, by default the pattern `0000001011010`. -/
def execMhb1536 (s : State) : Host.Outcome State Fault Refusal := runWord .black 1536 s

/-- `MHB.1600`, by default the pattern `0000001011011`. -/
def execMhb1600 (s : State) : Host.Outcome State Fault Refusal := runWord .black 1600 s

/-- `MHB.1664`, by default the pattern `0000001100100`. -/
def execMhb1664 (s : State) : Host.Outcome State Fault Refusal := runWord .black 1664 s

/-- `MHB.1728`, by default the pattern `0000001100101`. -/
def execMhb1728 (s : State) : Host.Outcome State Fault Refusal := runWord .black 1728 s

/-- `MHB.1792`, by default the pattern `00000001000`. -/
def execMhb1792 (s : State) : Host.Outcome State Fault Refusal := runWord .black 1792 s

/-- `MHB.1856`, by default the pattern `00000001100`. -/
def execMhb1856 (s : State) : Host.Outcome State Fault Refusal := runWord .black 1856 s

/-- `MHB.1920`, by default the pattern `00000001101`. -/
def execMhb1920 (s : State) : Host.Outcome State Fault Refusal := runWord .black 1920 s

/-- `MHB.1984`, by default the pattern `000000010010`. -/
def execMhb1984 (s : State) : Host.Outcome State Fault Refusal := runWord .black 1984 s

/-- `MHB.2048`, by default the pattern `000000010011`. -/
def execMhb2048 (s : State) : Host.Outcome State Fault Refusal := runWord .black 2048 s

/-- `MHB.2112`, by default the pattern `000000010100`. -/
def execMhb2112 (s : State) : Host.Outcome State Fault Refusal := runWord .black 2112 s

/-- `MHB.2176`, by default the pattern `000000010101`. -/
def execMhb2176 (s : State) : Host.Outcome State Fault Refusal := runWord .black 2176 s

/-- `MHB.2240`, by default the pattern `000000010110`. -/
def execMhb2240 (s : State) : Host.Outcome State Fault Refusal := runWord .black 2240 s

/-- `MHB.2304`, by default the pattern `000000010111`. -/
def execMhb2304 (s : State) : Host.Outcome State Fault Refusal := runWord .black 2304 s

/-- `MHB.2368`, by default the pattern `000000011100`. -/
def execMhb2368 (s : State) : Host.Outcome State Fault Refusal := runWord .black 2368 s

/-- `MHB.2432`, by default the pattern `000000011101`. -/
def execMhb2432 (s : State) : Host.Outcome State Fault Refusal := runWord .black 2432 s

/-- `MHB.2496`, by default the pattern `000000011110`. -/
def execMhb2496 (s : State) : Host.Outcome State Fault Refusal := runWord .black 2496 s

/-- `MHB.2560`, by default the pattern `000000011111`. -/
def execMhb2560 (s : State) : Host.Outcome State Fault Refusal := runWord .black 2560 s

end Sys2Proof.Machine
end

