-- ==== Sys2Proof/Machine/Float.lean ====
section
/-! DEFINITION. IEEE 754 addition, the default of `FADD32` and `FADD64` (spec 00_scope R10, 41_predictor R172, R173): round to
nearest, ties to even, subnormals kept, no trap, no flag. PRESUMED, log entry 8: the spec takes the format
from general knowledge (93 U2). Written for a format of `ew` exponent and `fw` fraction bits.

Every finite value is a whole multiple of the smallest subnormal, so a sum of two is an integer computed
exactly, and rounded once. -/

namespace Sys2Proof.Machine

/-- Sign bit of a packed value. -/
def floatSign (ew fw x : Nat) : Bool := x.testBit (ew + fw)

/-- Exponent field. -/
def floatExp (ew fw x : Nat) : Nat := x / 2 ^ fw % 2 ^ ew

/-- Fraction field. -/
def floatFrac (fw x : Nat) : Nat := x % 2 ^ fw

/-- The exponent field of infinities and NaNs. -/
def floatTop (ew : Nat) : Nat := 2 ^ ew - 1

/-- A NaN: exponent all ones, fraction not zero. -/
def floatIsNaN (ew fw x : Nat) : Bool := floatExp ew fw x = floatTop ew && floatFrac fw x ≠ 0

/-- An infinity: exponent all ones, fraction zero. -/
def floatIsInf (ew fw x : Nat) : Bool := floatExp ew fw x = floatTop ew && floatFrac fw x = 0

/-- The magnitude of a finite value, in units of the smallest subnormal: a subnormal (exponent 0) is its
fraction, a normal value its significand times `2 ^ (exponent - 1)`. -/
def floatMag (ew fw x : Nat) : Nat :=
  if floatExp ew fw x = 0 then floatFrac fw x
  else (2 ^ fw + floatFrac fw x) * 2 ^ (floatExp ew fw x - 1)

/-- The value of a finite packed value, in units of the smallest subnormal. -/
def floatVal (ew fw x : Nat) : Int :=
  if floatSign ew fw x then - (floatMag ew fw x : Int) else (floatMag ew fw x : Int)

/-- Divide by `2 ^ k` and round to nearest, ties to even. -/
def roundShift (m k : Nat) : Nat :=
  let q := m / 2 ^ k
  let twice := 2 * (m % 2 ^ k)
  if twice > 2 ^ k ∨ (twice = 2 ^ k ∧ q % 2 = 1) then q + 1 else q

/-- Exponent and fraction fields of a magnitude, rounded to `fw + 1` significant bits; a carry out of the
rounding moves into the exponent, and a magnitude too large gives the fields of an infinity. -/
def floatPackMag (ew fw m : Nat) : Nat :=
  if m < 2 ^ (fw + 1) then m
  else
    let k := Nat.log2 m - fw
    min (k * 2 ^ fw + roundShift m k) (floatTop ew * 2 ^ fw)

/-- A packed value from its sign and its other fields. -/
def floatWithSign (ew fw : Nat) (neg : Bool) (rest : Nat) : Nat :=
  if neg then 2 ^ (ew + fw) + rest else rest

/-- The sum of two finite values. An exact zero is `+0` unless both operands are negative zeros. -/
def floatAddFinite (ew fw x y : Nat) : Nat :=
  let sum := floatVal ew fw x + floatVal ew fw y
  if sum = 0 then floatWithSign ew fw (floatSign ew fw x && floatSign ew fw y) 0
  else floatWithSign ew fw (decide (sum < 0)) (floatPackMag ew fw sum.natAbs)

/-- The sum of two packed values; `none` is a NaN. -/
def floatAdd (ew fw x y : Nat) : Option Nat :=
  if floatIsNaN ew fw x || floatIsNaN ew fw y then none
  else if floatIsInf ew fw x then
    if floatIsInf ew fw y && floatSign ew fw x != floatSign ew fw y then none else some x
  else if floatIsInf ew fw y then some y
  else some (floatAddFinite ew fw x y)

/-- Default `FADD32`: binary32 addition; a NaN result is a quiet NaN with free sign and payload (log entry 7). -/
def ieeeAdd32 (x y : BitVec 32) : BitVec 32 :=
  match floatAdd 8 23 x.toNat y.toNat with
  | some r => BitVec.ofNat 32 r
  | none => Config.nanBits32 x y ||| 0x7FC00000

/-- Default `FADD64`: binary64 addition. -/
def ieeeAdd64 (x y : BitVec 64) : BitVec 64 :=
  match floatAdd 11 52 x.toNat y.toNat with
  | some r => BitVec.ofNat 64 r
  | none => Config.nanBits64 x y ||| 0x7FF8000000000000

/-- `FADD32` of the build (spec 00_scope R10). -/
def fadd32 (impl : FloatAdd) (x y : BitVec 32) : BitVec 32 :=
  match impl with
  | .ieee => ieeeAdd32 x y
  | .configured => Config.fadd32 x y

/-- `FADD64` of the build (spec 00_scope R10). -/
def fadd64 (impl : FloatAdd) (x y : BitVec 64) : BitVec 64 :=
  match impl with
  | .ieee => ieeeAdd64 x y
  | .configured => Config.fadd64 x y

end Sys2Proof.Machine
end

