-- ==== Sys2Proof/Machine/Predictor.lean ====
section
/-! DEFINITION. The predictor unit: reversal of horizontal differencing, `PREVERSE` (spec 41_predictor). -/

namespace Sys2Proof.Machine

/-! ### The six additions (spec 41_predictor R168 to R173); operand order `(d, prev)` as R175 asks -/

/-- `ADD.I8` (R168): modulo `2 ^ 8`. -/
def addI8 (d prev : BitVec 8) : BitVec 8 := d + prev

/-- `ADD.I16` (R169): modulo `2 ^ 16`. -/
def addI16 (d prev : BitVec 16) : BitVec 16 := d + prev

/-- `ADD.I32` (R170): modulo `2 ^ 32`. -/
def addI32 (d prev : BitVec 32) : BitVec 32 := d + prev

/-- `ADD.I64` (R171): modulo `2 ^ 64`. -/
def addI64 (d prev : BitVec 64) : BitVec 64 := d + prev

/-- `ADD.F32` (R172). -/
def addF32 (impl : FloatAdd) (d prev : BitVec 32) : BitVec 32 := fadd32 impl d prev

/-- `ADD.F64` (R173). -/
def addF64 (impl : FloatAdd) (d prev : BitVec 64) : BitVec 64 := fadd64 impl d prev

/-- The addition of a variant on samples, at the variant's width (spec 40_resolver R152). -/
def sampleAdd (impl : FloatAdd) : Variant → Sample → Sample → Sample
  | .i8, d, prev => (addI8 (d.setWidth 8) (prev.setWidth 8)).setWidth 64
  | .i16, d, prev => (addI16 (d.setWidth 16) (prev.setWidth 16)).setWidth 64
  | .i32, d, prev => (addI32 (d.setWidth 32) (prev.setWidth 32)).setWidth 64
  | .i64, d, prev => addI64 d prev
  | .f32, d, prev => (addF32 impl (d.setWidth 32) (prev.setWidth 32)).setWidth 64
  | .f64, d, prev => addF64 impl d prev

/-! ### The pass over a region -/

/-- Row offset of sample `k` of a call (spec 41_predictor R163: `c`). -/
def rowOffset (pu : PU) (k : Nat) : Nat :=
  (pu.column.toNat + k * pu.sampleSize.toNat) % pu.scanlineStride.toNat

/-- Band of sample `k` of a call (spec 41_predictor R163: `band`). -/
def sampleBand (pu : PU) (k : Nat) : Nat :=
  rowOffset pu k % pu.pixelStride.toNat / pu.sampleSize.toNat

/-- Number of complete samples of a region (spec 41_predictor R162: `cnt`). -/
def sampleCount (pu : PU) (a b : Nat) : Nat := (b - a) / pu.sampleSize.toNat

/-- What a pass changes: `BUF` and the carry buffer. -/
structure Pass where
  buf : List Host.Cell
  saved : List Sample
deriving DecidableEq, Repr

/-- One iteration of the loop (spec 41_predictor R163 to R166): `pu` holds the registers as they are when the
command starts, `a` is the start of the region. -/
def reverseSample (impl : FloatAdd) (pu : PU) (a k : Nat) (p : Pass) : Pass :=
  let size := pu.sampleSize.toNat
  let pos := a + k * size
  let band := sampleBand pu k
  let d := loadSample pu.byteOrder size p.buf pos
  if rowOffset pu k < pu.pixelStride.toNat then
    { p with saved := savedSet p.saved band d }
  else
    let prev :=
      if pu.pixelStride.toNat ≤ k * size then
        loadSample pu.byteOrder size p.buf (pos - pu.pixelStride.toNat)
      else savedGet p.saved band
    let v := sampleAdd impl pu.variant d prev
    { buf := storeSample pu.byteOrder size p.buf pos v, saved := savedSet p.saved band v }

/-- Iterations `k`, `k + 1`, ... of the loop, `n` of them, in increasing order (spec 20_memory R77). -/
def reversePass (impl : FloatAdd) (pu : PU) (a : Nat) : Nat → Nat → Pass → Pass
  | 0, _, p => p
  | n + 1, k, p => reversePass impl pu a n (k + 1) (reverseSample impl pu a k p)

/-- `PREVERSE start, stop` (spec 41_predictor R160 to R167); the checks in the order of R161. -/
def execPreverse (start stop : Word) (s : State) : Host.Outcome State Fault Refusal :=
  let a := start.toNat
  let b := stop.toNat
  if !s.pu.pvalid then raise .notReady s
  else if a > b ∨ b > s.cfg.bufSize.toNat then raise .range s
  else
    let cnt := sampleCount s.pu a b
    let p := reversePass s.cfg.fadd s.pu a cnt 0 { buf := s.buf, saved := s.pu.saved }
    answer 0 (BitVec.ofNat 32 (a + cnt * s.pu.sampleSize.toNat))
      { s with
        buf := p.buf
        pu := { s.pu with saved := p.saved, column := BitVec.ofNat 32 (rowOffset s.pu cnt) } }

end Sys2Proof.Machine
end

