-- ==== Sys2Proof/Machine/Resolver.lean ====
section
/-! DEFINITION. The type resolver and predictor creation: `RESOLVE` and `PCREATE` (spec 40_resolver). -/

namespace Sys2Proof.Machine

/-- A supported type (spec 40_resolver R140). -/
structure Resolved where
  variant : Variant
  size : BitVec 4
  isFloat : Bool
  isSigned : Bool
deriving DecidableEq, Repr

/-- The mapping (spec 40_resolver R141); every pair not listed is unsupported, `none` (R143). -/
def resolveType : Kind → BitVec 16 → Option Resolved
  | .uint, bits =>
    if bits = 8 then some ⟨.i8, 1, false, false⟩
    else if bits = 16 then some ⟨.i16, 2, false, false⟩
    else if bits = 32 then some ⟨.i32, 4, false, false⟩
    else if bits = 64 then some ⟨.i64, 8, false, false⟩ else none
  | .sint, bits =>
    if bits = 8 then some ⟨.i8, 1, false, true⟩
    else if bits = 16 then some ⟨.i16, 2, false, true⟩
    else if bits = 32 then some ⟨.i32, 4, false, true⟩
    else if bits = 64 then some ⟨.i64, 8, false, true⟩ else none
  | .float, bits =>
    if bits = 32 then some ⟨.f32, 4, true, true⟩
    else if bits = 64 then some ⟨.f64, 8, true, true⟩ else none

/-- The geometry check, products over the naturals (spec 40_resolver R146). -/
def geomOK (maxBands size spp width : Nat) : Bool :=
  1 ≤ spp && spp ≤ maxBands && 2 ≤ width && spp * size ≤ 2 ^ 32 - 1 && width * (spp * size) ≤ 2 ^ 32 - 1

/-- The PU holding a new instance (spec 40_resolver R147). -/
def newInstance (t : Resolved) (order : ByteOrder) (spp width : Word) : PU :=
  { pvalid := true, variant := t.variant, sgn := t.isSigned, sampleSize := t.size, byteOrder := order,
    samplesPerPixel := spp, pixelWidth := width,
    pixelStride := BitVec.ofNat 32 (spp.toNat * t.size.toNat),
    scanlineStride := BitVec.ofNat 32 (width.toNat * (spp.toNat * t.size.toNat)),
    column := 0, saved := List.replicate spp.toNat 0 }

/-- `RESOLVE kind, bits` (spec 40_resolver R145). -/
def execResolve (kind : Kind) (bits : BitVec 16) (s : State) : Host.Outcome State Fault Refusal :=
  match resolveType kind bits with
  | none => raise .unsupported s
  | some t => answer (resolverAux t.size t.isFloat t.isSigned) 0 s

/-- `PCREATE kind, bits, order, spp, width` (spec 40_resolver R147); a fault leaves the PU without an
instance, at its reset values (R148). -/
def execPcreate (kind : Kind) (bits : BitVec 16) (order : ByteOrder) (spp width : Word) (s : State) :
    Host.Outcome State Fault Refusal :=
  match resolveType kind bits with
  | none => raise .unsupported { s with pu := PU.reset }
  | some t =>
    if geomOK s.cfg.maxBands.toNat t.size.toNat spp.toNat width.toNat then
      let pu := newInstance t order spp width
      answer (resolverAux t.size t.isFloat t.isSigned) pu.scanlineStride { s with pu := pu }
    else raise .geometry { s with pu := PU.reset }

end Sys2Proof.Machine
end

