-- ==== Sys2Proof/Machine/WhiteWords.lean ====
section
/-! DEFINITION. The meanings of the WHITE code words: each is the body of the `HNEXT` loop for that word (spec 42_huffman R202, R205
to R207), with the run length of its row (spec 31_code_tables R126, R127) and the number of bits that row has in the table of the
build (spec 00_scope R9). -/

namespace Sys2Proof.Machine

/-- `MHW.0`, by default the pattern `00110101`. -/
def execMhw0 (s : State) : Host.Outcome State Fault Refusal := runWord .white 0 s

/-- `MHW.1`, by default the pattern `000111`. -/
def execMhw1 (s : State) : Host.Outcome State Fault Refusal := runWord .white 1 s

/-- `MHW.2`, by default the pattern `0111`. -/
def execMhw2 (s : State) : Host.Outcome State Fault Refusal := runWord .white 2 s

/-- `MHW.3`, by default the pattern `1000`. -/
def execMhw3 (s : State) : Host.Outcome State Fault Refusal := runWord .white 3 s

/-- `MHW.4`, by default the pattern `1011`. -/
def execMhw4 (s : State) : Host.Outcome State Fault Refusal := runWord .white 4 s

/-- `MHW.5`, by default the pattern `1100`. -/
def execMhw5 (s : State) : Host.Outcome State Fault Refusal := runWord .white 5 s

/-- `MHW.6`, by default the pattern `1110`. -/
def execMhw6 (s : State) : Host.Outcome State Fault Refusal := runWord .white 6 s

/-- `MHW.7`, by default the pattern `1111`. -/
def execMhw7 (s : State) : Host.Outcome State Fault Refusal := runWord .white 7 s

/-- `MHW.8`, by default the pattern `10011`. -/
def execMhw8 (s : State) : Host.Outcome State Fault Refusal := runWord .white 8 s

/-- `MHW.9`, by default the pattern `10100`. -/
def execMhw9 (s : State) : Host.Outcome State Fault Refusal := runWord .white 9 s

/-- `MHW.10`, by default the pattern `00111`. -/
def execMhw10 (s : State) : Host.Outcome State Fault Refusal := runWord .white 10 s

/-- `MHW.11`, by default the pattern `01000`. -/
def execMhw11 (s : State) : Host.Outcome State Fault Refusal := runWord .white 11 s

/-- `MHW.12`, by default the pattern `001000`. -/
def execMhw12 (s : State) : Host.Outcome State Fault Refusal := runWord .white 12 s

/-- `MHW.13`, by default the pattern `000011`. -/
def execMhw13 (s : State) : Host.Outcome State Fault Refusal := runWord .white 13 s

/-- `MHW.14`, by default the pattern `110100`. -/
def execMhw14 (s : State) : Host.Outcome State Fault Refusal := runWord .white 14 s

/-- `MHW.15`, by default the pattern `110101`. -/
def execMhw15 (s : State) : Host.Outcome State Fault Refusal := runWord .white 15 s

/-- `MHW.16`, by default the pattern `101010`. -/
def execMhw16 (s : State) : Host.Outcome State Fault Refusal := runWord .white 16 s

/-- `MHW.17`, by default the pattern `101011`. -/
def execMhw17 (s : State) : Host.Outcome State Fault Refusal := runWord .white 17 s

/-- `MHW.18`, by default the pattern `0100111`. -/
def execMhw18 (s : State) : Host.Outcome State Fault Refusal := runWord .white 18 s

/-- `MHW.19`, by default the pattern `0001100`. -/
def execMhw19 (s : State) : Host.Outcome State Fault Refusal := runWord .white 19 s

/-- `MHW.20`, by default the pattern `0001000`. -/
def execMhw20 (s : State) : Host.Outcome State Fault Refusal := runWord .white 20 s

/-- `MHW.21`, by default the pattern `0010111`. -/
def execMhw21 (s : State) : Host.Outcome State Fault Refusal := runWord .white 21 s

/-- `MHW.22`, by default the pattern `0000011`. -/
def execMhw22 (s : State) : Host.Outcome State Fault Refusal := runWord .white 22 s

/-- `MHW.23`, by default the pattern `0000100`. -/
def execMhw23 (s : State) : Host.Outcome State Fault Refusal := runWord .white 23 s

/-- `MHW.24`, by default the pattern `0101000`. -/
def execMhw24 (s : State) : Host.Outcome State Fault Refusal := runWord .white 24 s

/-- `MHW.25`, by default the pattern `0101011`. -/
def execMhw25 (s : State) : Host.Outcome State Fault Refusal := runWord .white 25 s

/-- `MHW.26`, by default the pattern `0010011`. -/
def execMhw26 (s : State) : Host.Outcome State Fault Refusal := runWord .white 26 s

/-- `MHW.27`, by default the pattern `0100100`. -/
def execMhw27 (s : State) : Host.Outcome State Fault Refusal := runWord .white 27 s

/-- `MHW.28`, by default the pattern `0011000`. -/
def execMhw28 (s : State) : Host.Outcome State Fault Refusal := runWord .white 28 s

/-- `MHW.29`, by default the pattern `00000010`. -/
def execMhw29 (s : State) : Host.Outcome State Fault Refusal := runWord .white 29 s

/-- `MHW.30`, by default the pattern `00000011`. -/
def execMhw30 (s : State) : Host.Outcome State Fault Refusal := runWord .white 30 s

/-- `MHW.31`, by default the pattern `00011010`. -/
def execMhw31 (s : State) : Host.Outcome State Fault Refusal := runWord .white 31 s

/-- `MHW.32`, by default the pattern `00011011`. -/
def execMhw32 (s : State) : Host.Outcome State Fault Refusal := runWord .white 32 s

/-- `MHW.33`, by default the pattern `00010010`. -/
def execMhw33 (s : State) : Host.Outcome State Fault Refusal := runWord .white 33 s

/-- `MHW.34`, by default the pattern `00010011`. -/
def execMhw34 (s : State) : Host.Outcome State Fault Refusal := runWord .white 34 s

/-- `MHW.35`, by default the pattern `00010100`. -/
def execMhw35 (s : State) : Host.Outcome State Fault Refusal := runWord .white 35 s

/-- `MHW.36`, by default the pattern `00010101`. -/
def execMhw36 (s : State) : Host.Outcome State Fault Refusal := runWord .white 36 s

/-- `MHW.37`, by default the pattern `00010110`. -/
def execMhw37 (s : State) : Host.Outcome State Fault Refusal := runWord .white 37 s

/-- `MHW.38`, by default the pattern `00010111`. -/
def execMhw38 (s : State) : Host.Outcome State Fault Refusal := runWord .white 38 s

/-- `MHW.39`, by default the pattern `00101000`. -/
def execMhw39 (s : State) : Host.Outcome State Fault Refusal := runWord .white 39 s

/-- `MHW.40`, by default the pattern `00101001`. -/
def execMhw40 (s : State) : Host.Outcome State Fault Refusal := runWord .white 40 s

/-- `MHW.41`, by default the pattern `00101010`. -/
def execMhw41 (s : State) : Host.Outcome State Fault Refusal := runWord .white 41 s

/-- `MHW.42`, by default the pattern `00101011`. -/
def execMhw42 (s : State) : Host.Outcome State Fault Refusal := runWord .white 42 s

/-- `MHW.43`, by default the pattern `00101100`. -/
def execMhw43 (s : State) : Host.Outcome State Fault Refusal := runWord .white 43 s

/-- `MHW.44`, by default the pattern `00101101`. -/
def execMhw44 (s : State) : Host.Outcome State Fault Refusal := runWord .white 44 s

/-- `MHW.45`, by default the pattern `00000100`. -/
def execMhw45 (s : State) : Host.Outcome State Fault Refusal := runWord .white 45 s

/-- `MHW.46`, by default the pattern `00000101`. -/
def execMhw46 (s : State) : Host.Outcome State Fault Refusal := runWord .white 46 s

/-- `MHW.47`, by default the pattern `00001010`. -/
def execMhw47 (s : State) : Host.Outcome State Fault Refusal := runWord .white 47 s

/-- `MHW.48`, by default the pattern `00001011`. -/
def execMhw48 (s : State) : Host.Outcome State Fault Refusal := runWord .white 48 s

/-- `MHW.49`, by default the pattern `01010010`. -/
def execMhw49 (s : State) : Host.Outcome State Fault Refusal := runWord .white 49 s

/-- `MHW.50`, by default the pattern `01010011`. -/
def execMhw50 (s : State) : Host.Outcome State Fault Refusal := runWord .white 50 s

/-- `MHW.51`, by default the pattern `01010100`. -/
def execMhw51 (s : State) : Host.Outcome State Fault Refusal := runWord .white 51 s

/-- `MHW.52`, by default the pattern `01010101`. -/
def execMhw52 (s : State) : Host.Outcome State Fault Refusal := runWord .white 52 s

/-- `MHW.53`, by default the pattern `00100100`. -/
def execMhw53 (s : State) : Host.Outcome State Fault Refusal := runWord .white 53 s

/-- `MHW.54`, by default the pattern `00100101`. -/
def execMhw54 (s : State) : Host.Outcome State Fault Refusal := runWord .white 54 s

/-- `MHW.55`, by default the pattern `01011000`. -/
def execMhw55 (s : State) : Host.Outcome State Fault Refusal := runWord .white 55 s

/-- `MHW.56`, by default the pattern `01011001`. -/
def execMhw56 (s : State) : Host.Outcome State Fault Refusal := runWord .white 56 s

/-- `MHW.57`, by default the pattern `01011010`. -/
def execMhw57 (s : State) : Host.Outcome State Fault Refusal := runWord .white 57 s

/-- `MHW.58`, by default the pattern `01011011`. -/
def execMhw58 (s : State) : Host.Outcome State Fault Refusal := runWord .white 58 s

/-- `MHW.59`, by default the pattern `01001010`. -/
def execMhw59 (s : State) : Host.Outcome State Fault Refusal := runWord .white 59 s

/-- `MHW.60`, by default the pattern `01001011`. -/
def execMhw60 (s : State) : Host.Outcome State Fault Refusal := runWord .white 60 s

/-- `MHW.61`, by default the pattern `00110010`. -/
def execMhw61 (s : State) : Host.Outcome State Fault Refusal := runWord .white 61 s

/-- `MHW.62`, by default the pattern `00110011`. -/
def execMhw62 (s : State) : Host.Outcome State Fault Refusal := runWord .white 62 s

/-- `MHW.63`, by default the pattern `00110100`. -/
def execMhw63 (s : State) : Host.Outcome State Fault Refusal := runWord .white 63 s

/-- `MHW.64`, by default the pattern `11011`. -/
def execMhw64 (s : State) : Host.Outcome State Fault Refusal := runWord .white 64 s

/-- `MHW.128`, by default the pattern `10010`. -/
def execMhw128 (s : State) : Host.Outcome State Fault Refusal := runWord .white 128 s

/-- `MHW.192`, by default the pattern `010111`. -/
def execMhw192 (s : State) : Host.Outcome State Fault Refusal := runWord .white 192 s

/-- `MHW.256`, by default the pattern `0110111`. -/
def execMhw256 (s : State) : Host.Outcome State Fault Refusal := runWord .white 256 s

/-- `MHW.320`, by default the pattern `00110110`. -/
def execMhw320 (s : State) : Host.Outcome State Fault Refusal := runWord .white 320 s

/-- `MHW.384`, by default the pattern `00110111`. -/
def execMhw384 (s : State) : Host.Outcome State Fault Refusal := runWord .white 384 s

/-- `MHW.448`, by default the pattern `01100100`. -/
def execMhw448 (s : State) : Host.Outcome State Fault Refusal := runWord .white 448 s

/-- `MHW.512`, by default the pattern `01100101`. -/
def execMhw512 (s : State) : Host.Outcome State Fault Refusal := runWord .white 512 s

/-- `MHW.576`, by default the pattern `01101000`. -/
def execMhw576 (s : State) : Host.Outcome State Fault Refusal := runWord .white 576 s

/-- `MHW.640`, by default the pattern `01100111`. -/
def execMhw640 (s : State) : Host.Outcome State Fault Refusal := runWord .white 640 s

/-- `MHW.704`, by default the pattern `011001100`. -/
def execMhw704 (s : State) : Host.Outcome State Fault Refusal := runWord .white 704 s

/-- `MHW.768`, by default the pattern `011001101`. -/
def execMhw768 (s : State) : Host.Outcome State Fault Refusal := runWord .white 768 s

/-- `MHW.832`, by default the pattern `011010010`. -/
def execMhw832 (s : State) : Host.Outcome State Fault Refusal := runWord .white 832 s

/-- `MHW.896`, by default the pattern `011010011`. -/
def execMhw896 (s : State) : Host.Outcome State Fault Refusal := runWord .white 896 s

/-- `MHW.960`, by default the pattern `011010100`. -/
def execMhw960 (s : State) : Host.Outcome State Fault Refusal := runWord .white 960 s

/-- `MHW.1024`, by default the pattern `011010101`. -/
def execMhw1024 (s : State) : Host.Outcome State Fault Refusal := runWord .white 1024 s

/-- `MHW.1088`, by default the pattern `011010110`. -/
def execMhw1088 (s : State) : Host.Outcome State Fault Refusal := runWord .white 1088 s

/-- `MHW.1152`, by default the pattern `011010111`. -/
def execMhw1152 (s : State) : Host.Outcome State Fault Refusal := runWord .white 1152 s

/-- `MHW.1216`, by default the pattern `011011000`. -/
def execMhw1216 (s : State) : Host.Outcome State Fault Refusal := runWord .white 1216 s

/-- `MHW.1280`, by default the pattern `011011001`. -/
def execMhw1280 (s : State) : Host.Outcome State Fault Refusal := runWord .white 1280 s

/-- `MHW.1344`, by default the pattern `011011010`. -/
def execMhw1344 (s : State) : Host.Outcome State Fault Refusal := runWord .white 1344 s

/-- `MHW.1408`, by default the pattern `011011011`. -/
def execMhw1408 (s : State) : Host.Outcome State Fault Refusal := runWord .white 1408 s

/-- `MHW.1472`, by default the pattern `010011000`. -/
def execMhw1472 (s : State) : Host.Outcome State Fault Refusal := runWord .white 1472 s

/-- `MHW.1536`, by default the pattern `010011001`. -/
def execMhw1536 (s : State) : Host.Outcome State Fault Refusal := runWord .white 1536 s

/-- `MHW.1600`, by default the pattern `010011010`. -/
def execMhw1600 (s : State) : Host.Outcome State Fault Refusal := runWord .white 1600 s

/-- `MHW.1664`, by default the pattern `011000`. -/
def execMhw1664 (s : State) : Host.Outcome State Fault Refusal := runWord .white 1664 s

/-- `MHW.1728`, by default the pattern `010011011`. -/
def execMhw1728 (s : State) : Host.Outcome State Fault Refusal := runWord .white 1728 s

/-- `MHW.1792`, by default the pattern `00000001000`. -/
def execMhw1792 (s : State) : Host.Outcome State Fault Refusal := runWord .white 1792 s

/-- `MHW.1856`, by default the pattern `00000001100`. -/
def execMhw1856 (s : State) : Host.Outcome State Fault Refusal := runWord .white 1856 s

/-- `MHW.1920`, by default the pattern `00000001101`. -/
def execMhw1920 (s : State) : Host.Outcome State Fault Refusal := runWord .white 1920 s

/-- `MHW.1984`, by default the pattern `000000010010`. -/
def execMhw1984 (s : State) : Host.Outcome State Fault Refusal := runWord .white 1984 s

/-- `MHW.2048`, by default the pattern `000000010011`. -/
def execMhw2048 (s : State) : Host.Outcome State Fault Refusal := runWord .white 2048 s

/-- `MHW.2112`, by default the pattern `000000010100`. -/
def execMhw2112 (s : State) : Host.Outcome State Fault Refusal := runWord .white 2112 s

/-- `MHW.2176`, by default the pattern `000000010101`. -/
def execMhw2176 (s : State) : Host.Outcome State Fault Refusal := runWord .white 2176 s

/-- `MHW.2240`, by default the pattern `000000010110`. -/
def execMhw2240 (s : State) : Host.Outcome State Fault Refusal := runWord .white 2240 s

/-- `MHW.2304`, by default the pattern `000000010111`. -/
def execMhw2304 (s : State) : Host.Outcome State Fault Refusal := runWord .white 2304 s

/-- `MHW.2368`, by default the pattern `000000011100`. -/
def execMhw2368 (s : State) : Host.Outcome State Fault Refusal := runWord .white 2368 s

/-- `MHW.2432`, by default the pattern `000000011101`. -/
def execMhw2432 (s : State) : Host.Outcome State Fault Refusal := runWord .white 2432 s

/-- `MHW.2496`, by default the pattern `000000011110`. -/
def execMhw2496 (s : State) : Host.Outcome State Fault Refusal := runWord .white 2496 s

/-- `MHW.2560`, by default the pattern `000000011111`. -/
def execMhw2560 (s : State) : Host.Outcome State Fault Refusal := runWord .white 2560 s

end Sys2Proof.Machine
end

