-- ==== Sys2Proof/Machine/Dispatch.lean ====
section
/-! DEFINITION. The dispatch: one arm per constructor of `Instr`. -/

namespace Sys2Proof.Machine
open Sys2Proof

def exec (i : Instr) (s : State) : Host.Outcome State Fault Refusal :=
  match i with
  | .resolve kind bits => Sys2Proof.Machine.execResolve kind bits s
  | .pcreate kind bits order spp width => Sys2Proof.Machine.execPcreate kind bits order spp width s
  | .preverse start stop => Sys2Proof.Machine.execPreverse start stop s
  | .hregion offset count => Sys2Proof.Machine.execHregion offset count s
  | .hline => Sys2Proof.Machine.execHline s
  | .hnext sel => Sys2Proof.Machine.execHnext sel s
  | .mhw0 => Sys2Proof.Machine.execMhw0 s
  | .mhw1 => Sys2Proof.Machine.execMhw1 s
  | .mhw2 => Sys2Proof.Machine.execMhw2 s
  | .mhw3 => Sys2Proof.Machine.execMhw3 s
  | .mhw4 => Sys2Proof.Machine.execMhw4 s
  | .mhw5 => Sys2Proof.Machine.execMhw5 s
  | .mhw6 => Sys2Proof.Machine.execMhw6 s
  | .mhw7 => Sys2Proof.Machine.execMhw7 s
  | .mhw8 => Sys2Proof.Machine.execMhw8 s
  | .mhw9 => Sys2Proof.Machine.execMhw9 s
  | .mhw10 => Sys2Proof.Machine.execMhw10 s
  | .mhw11 => Sys2Proof.Machine.execMhw11 s
  | .mhw12 => Sys2Proof.Machine.execMhw12 s
  | .mhw13 => Sys2Proof.Machine.execMhw13 s
  | .mhw14 => Sys2Proof.Machine.execMhw14 s
  | .mhw15 => Sys2Proof.Machine.execMhw15 s
  | .mhw16 => Sys2Proof.Machine.execMhw16 s
  | .mhw17 => Sys2Proof.Machine.execMhw17 s
  | .mhw18 => Sys2Proof.Machine.execMhw18 s
  | .mhw19 => Sys2Proof.Machine.execMhw19 s
  | .mhw20 => Sys2Proof.Machine.execMhw20 s
  | .mhw21 => Sys2Proof.Machine.execMhw21 s
  | .mhw22 => Sys2Proof.Machine.execMhw22 s
  | .mhw23 => Sys2Proof.Machine.execMhw23 s
  | .mhw24 => Sys2Proof.Machine.execMhw24 s
  | .mhw25 => Sys2Proof.Machine.execMhw25 s
  | .mhw26 => Sys2Proof.Machine.execMhw26 s
  | .mhw27 => Sys2Proof.Machine.execMhw27 s
  | .mhw28 => Sys2Proof.Machine.execMhw28 s
  | .mhw29 => Sys2Proof.Machine.execMhw29 s
  | .mhw30 => Sys2Proof.Machine.execMhw30 s
  | .mhw31 => Sys2Proof.Machine.execMhw31 s
  | .mhw32 => Sys2Proof.Machine.execMhw32 s
  | .mhw33 => Sys2Proof.Machine.execMhw33 s
  | .mhw34 => Sys2Proof.Machine.execMhw34 s
  | .mhw35 => Sys2Proof.Machine.execMhw35 s
  | .mhw36 => Sys2Proof.Machine.execMhw36 s
  | .mhw37 => Sys2Proof.Machine.execMhw37 s
  | .mhw38 => Sys2Proof.Machine.execMhw38 s
  | .mhw39 => Sys2Proof.Machine.execMhw39 s
  | .mhw40 => Sys2Proof.Machine.execMhw40 s
  | .mhw41 => Sys2Proof.Machine.execMhw41 s
  | .mhw42 => Sys2Proof.Machine.execMhw42 s
  | .mhw43 => Sys2Proof.Machine.execMhw43 s
  | .mhw44 => Sys2Proof.Machine.execMhw44 s
  | .mhw45 => Sys2Proof.Machine.execMhw45 s
  | .mhw46 => Sys2Proof.Machine.execMhw46 s
  | .mhw47 => Sys2Proof.Machine.execMhw47 s
  | .mhw48 => Sys2Proof.Machine.execMhw48 s
  | .mhw49 => Sys2Proof.Machine.execMhw49 s
  | .mhw50 => Sys2Proof.Machine.execMhw50 s
  | .mhw51 => Sys2Proof.Machine.execMhw51 s
  | .mhw52 => Sys2Proof.Machine.execMhw52 s
  | .mhw53 => Sys2Proof.Machine.execMhw53 s
  | .mhw54 => Sys2Proof.Machine.execMhw54 s
  | .mhw55 => Sys2Proof.Machine.execMhw55 s
  | .mhw56 => Sys2Proof.Machine.execMhw56 s
  | .mhw57 => Sys2Proof.Machine.execMhw57 s
  | .mhw58 => Sys2Proof.Machine.execMhw58 s
  | .mhw59 => Sys2Proof.Machine.execMhw59 s
  | .mhw60 => Sys2Proof.Machine.execMhw60 s
  | .mhw61 => Sys2Proof.Machine.execMhw61 s
  | .mhw62 => Sys2Proof.Machine.execMhw62 s
  | .mhw63 => Sys2Proof.Machine.execMhw63 s
  | .mhw64 => Sys2Proof.Machine.execMhw64 s
  | .mhw128 => Sys2Proof.Machine.execMhw128 s
  | .mhw192 => Sys2Proof.Machine.execMhw192 s
  | .mhw256 => Sys2Proof.Machine.execMhw256 s
  | .mhw320 => Sys2Proof.Machine.execMhw320 s
  | .mhw384 => Sys2Proof.Machine.execMhw384 s
  | .mhw448 => Sys2Proof.Machine.execMhw448 s
  | .mhw512 => Sys2Proof.Machine.execMhw512 s
  | .mhw576 => Sys2Proof.Machine.execMhw576 s
  | .mhw640 => Sys2Proof.Machine.execMhw640 s
  | .mhw704 => Sys2Proof.Machine.execMhw704 s
  | .mhw768 => Sys2Proof.Machine.execMhw768 s
  | .mhw832 => Sys2Proof.Machine.execMhw832 s
  | .mhw896 => Sys2Proof.Machine.execMhw896 s
  | .mhw960 => Sys2Proof.Machine.execMhw960 s
  | .mhw1024 => Sys2Proof.Machine.execMhw1024 s
  | .mhw1088 => Sys2Proof.Machine.execMhw1088 s
  | .mhw1152 => Sys2Proof.Machine.execMhw1152 s
  | .mhw1216 => Sys2Proof.Machine.execMhw1216 s
  | .mhw1280 => Sys2Proof.Machine.execMhw1280 s
  | .mhw1344 => Sys2Proof.Machine.execMhw1344 s
  | .mhw1408 => Sys2Proof.Machine.execMhw1408 s
  | .mhw1472 => Sys2Proof.Machine.execMhw1472 s
  | .mhw1536 => Sys2Proof.Machine.execMhw1536 s
  | .mhw1600 => Sys2Proof.Machine.execMhw1600 s
  | .mhw1664 => Sys2Proof.Machine.execMhw1664 s
  | .mhw1728 => Sys2Proof.Machine.execMhw1728 s
  | .mhw1792 => Sys2Proof.Machine.execMhw1792 s
  | .mhw1856 => Sys2Proof.Machine.execMhw1856 s
  | .mhw1920 => Sys2Proof.Machine.execMhw1920 s
  | .mhw1984 => Sys2Proof.Machine.execMhw1984 s
  | .mhw2048 => Sys2Proof.Machine.execMhw2048 s
  | .mhw2112 => Sys2Proof.Machine.execMhw2112 s
  | .mhw2176 => Sys2Proof.Machine.execMhw2176 s
  | .mhw2240 => Sys2Proof.Machine.execMhw2240 s
  | .mhw2304 => Sys2Proof.Machine.execMhw2304 s
  | .mhw2368 => Sys2Proof.Machine.execMhw2368 s
  | .mhw2432 => Sys2Proof.Machine.execMhw2432 s
  | .mhw2496 => Sys2Proof.Machine.execMhw2496 s
  | .mhw2560 => Sys2Proof.Machine.execMhw2560 s
  | .mhb0 => Sys2Proof.Machine.execMhb0 s
  | .mhb1 => Sys2Proof.Machine.execMhb1 s
  | .mhb2 => Sys2Proof.Machine.execMhb2 s
  | .mhb3 => Sys2Proof.Machine.execMhb3 s
  | .mhb4 => Sys2Proof.Machine.execMhb4 s
  | .mhb5 => Sys2Proof.Machine.execMhb5 s
  | .mhb6 => Sys2Proof.Machine.execMhb6 s
  | .mhb7 => Sys2Proof.Machine.execMhb7 s
  | .mhb8 => Sys2Proof.Machine.execMhb8 s
  | .mhb9 => Sys2Proof.Machine.execMhb9 s
  | .mhb10 => Sys2Proof.Machine.execMhb10 s
  | .mhb11 => Sys2Proof.Machine.execMhb11 s
  | .mhb12 => Sys2Proof.Machine.execMhb12 s
  | .mhb13 => Sys2Proof.Machine.execMhb13 s
  | .mhb14 => Sys2Proof.Machine.execMhb14 s
  | .mhb15 => Sys2Proof.Machine.execMhb15 s
  | .mhb16 => Sys2Proof.Machine.execMhb16 s
  | .mhb17 => Sys2Proof.Machine.execMhb17 s
  | .mhb18 => Sys2Proof.Machine.execMhb18 s
  | .mhb19 => Sys2Proof.Machine.execMhb19 s
  | .mhb20 => Sys2Proof.Machine.execMhb20 s
  | .mhb21 => Sys2Proof.Machine.execMhb21 s
  | .mhb22 => Sys2Proof.Machine.execMhb22 s
  | .mhb23 => Sys2Proof.Machine.execMhb23 s
  | .mhb24 => Sys2Proof.Machine.execMhb24 s
  | .mhb25 => Sys2Proof.Machine.execMhb25 s
  | .mhb26 => Sys2Proof.Machine.execMhb26 s
  | .mhb27 => Sys2Proof.Machine.execMhb27 s
  | .mhb28 => Sys2Proof.Machine.execMhb28 s
  | .mhb29 => Sys2Proof.Machine.execMhb29 s
  | .mhb30 => Sys2Proof.Machine.execMhb30 s
  | .mhb31 => Sys2Proof.Machine.execMhb31 s
  | .mhb32 => Sys2Proof.Machine.execMhb32 s
  | .mhb33 => Sys2Proof.Machine.execMhb33 s
  | .mhb34 => Sys2Proof.Machine.execMhb34 s
  | .mhb35 => Sys2Proof.Machine.execMhb35 s
  | .mhb36 => Sys2Proof.Machine.execMhb36 s
  | .mhb37 => Sys2Proof.Machine.execMhb37 s
  | .mhb38 => Sys2Proof.Machine.execMhb38 s
  | .mhb39 => Sys2Proof.Machine.execMhb39 s
  | .mhb40 => Sys2Proof.Machine.execMhb40 s
  | .mhb41 => Sys2Proof.Machine.execMhb41 s
  | .mhb42 => Sys2Proof.Machine.execMhb42 s
  | .mhb43 => Sys2Proof.Machine.execMhb43 s
  | .mhb44 => Sys2Proof.Machine.execMhb44 s
  | .mhb45 => Sys2Proof.Machine.execMhb45 s
  | .mhb46 => Sys2Proof.Machine.execMhb46 s
  | .mhb47 => Sys2Proof.Machine.execMhb47 s
  | .mhb48 => Sys2Proof.Machine.execMhb48 s
  | .mhb49 => Sys2Proof.Machine.execMhb49 s
  | .mhb50 => Sys2Proof.Machine.execMhb50 s
  | .mhb51 => Sys2Proof.Machine.execMhb51 s
  | .mhb52 => Sys2Proof.Machine.execMhb52 s
  | .mhb53 => Sys2Proof.Machine.execMhb53 s
  | .mhb54 => Sys2Proof.Machine.execMhb54 s
  | .mhb55 => Sys2Proof.Machine.execMhb55 s
  | .mhb56 => Sys2Proof.Machine.execMhb56 s
  | .mhb57 => Sys2Proof.Machine.execMhb57 s
  | .mhb58 => Sys2Proof.Machine.execMhb58 s
  | .mhb59 => Sys2Proof.Machine.execMhb59 s
  | .mhb60 => Sys2Proof.Machine.execMhb60 s
  | .mhb61 => Sys2Proof.Machine.execMhb61 s
  | .mhb62 => Sys2Proof.Machine.execMhb62 s
  | .mhb63 => Sys2Proof.Machine.execMhb63 s
  | .mhb64 => Sys2Proof.Machine.execMhb64 s
  | .mhb128 => Sys2Proof.Machine.execMhb128 s
  | .mhb192 => Sys2Proof.Machine.execMhb192 s
  | .mhb256 => Sys2Proof.Machine.execMhb256 s
  | .mhb320 => Sys2Proof.Machine.execMhb320 s
  | .mhb384 => Sys2Proof.Machine.execMhb384 s
  | .mhb448 => Sys2Proof.Machine.execMhb448 s
  | .mhb512 => Sys2Proof.Machine.execMhb512 s
  | .mhb576 => Sys2Proof.Machine.execMhb576 s
  | .mhb640 => Sys2Proof.Machine.execMhb640 s
  | .mhb704 => Sys2Proof.Machine.execMhb704 s
  | .mhb768 => Sys2Proof.Machine.execMhb768 s
  | .mhb832 => Sys2Proof.Machine.execMhb832 s
  | .mhb896 => Sys2Proof.Machine.execMhb896 s
  | .mhb960 => Sys2Proof.Machine.execMhb960 s
  | .mhb1024 => Sys2Proof.Machine.execMhb1024 s
  | .mhb1088 => Sys2Proof.Machine.execMhb1088 s
  | .mhb1152 => Sys2Proof.Machine.execMhb1152 s
  | .mhb1216 => Sys2Proof.Machine.execMhb1216 s
  | .mhb1280 => Sys2Proof.Machine.execMhb1280 s
  | .mhb1344 => Sys2Proof.Machine.execMhb1344 s
  | .mhb1408 => Sys2Proof.Machine.execMhb1408 s
  | .mhb1472 => Sys2Proof.Machine.execMhb1472 s
  | .mhb1536 => Sys2Proof.Machine.execMhb1536 s
  | .mhb1600 => Sys2Proof.Machine.execMhb1600 s
  | .mhb1664 => Sys2Proof.Machine.execMhb1664 s
  | .mhb1728 => Sys2Proof.Machine.execMhb1728 s
  | .mhb1792 => Sys2Proof.Machine.execMhb1792 s
  | .mhb1856 => Sys2Proof.Machine.execMhb1856 s
  | .mhb1920 => Sys2Proof.Machine.execMhb1920 s
  | .mhb1984 => Sys2Proof.Machine.execMhb1984 s
  | .mhb2048 => Sys2Proof.Machine.execMhb2048 s
  | .mhb2112 => Sys2Proof.Machine.execMhb2112 s
  | .mhb2176 => Sys2Proof.Machine.execMhb2176 s
  | .mhb2240 => Sys2Proof.Machine.execMhb2240 s
  | .mhb2304 => Sys2Proof.Machine.execMhb2304 s
  | .mhb2368 => Sys2Proof.Machine.execMhb2368 s
  | .mhb2432 => Sys2Proof.Machine.execMhb2432 s
  | .mhb2496 => Sys2Proof.Machine.execMhb2496 s
  | .mhb2560 => Sys2Proof.Machine.execMhb2560 s

end Sys2Proof.Machine
end

