-- ==== Sys2Proof/Machine/Fetch.lean ====
section
/-! DEFINITION. What the core does next. The core has no program counter (spec 10_state R22): between commands it takes the next
thing the host does; inside an `HNEXT` it takes the code word at the bit cursor. -/

namespace Sys2Proof.Machine

/-- What a fetch gives: an instruction to execute in a state, or a step that runs no instruction. -/
inductive Fetched where
  | run (i : Instr) (s : State)
  | stop (o : Host.Outcome State Fault Refusal)
deriving Repr

/-! ### Inside an `HNEXT` -/

/-- A walk that reached no code word (spec 42_huffman R204, R208, R210). A leaf whose value is no run length of a code word
does not exist in a ROM built from a well-formed table. -/
def walkFailed (e : WalkEnd) (s : State) : State :=
  match e with
  | .noPath used => huFail .corrupt s.hu.acc.toNat (advanceBits used s)
  | .endOfInput used => huFail .endOfInput s.hu.acc.toNat (advanceBits used s)
  | .leaf _ used => huFail .corrupt s.hu.acc.toNat (advanceBits used s)

/-- The code word at the bit cursor, in the trie of `c` (spec 42_huffman R203). -/
def fetchWord (c : Color) (s : State) : Fetched :=
  if !regionInside s then .stop (.fault .noSuchInAddress)
  else
    match rom s.cfg.tables c with
    | none => .stop (.refused .noHardware)
    | some t =>
      match decodeWord s.cfg.tables c (unreadBits s) with
      | .ok (i, _) => .run i s
      | .error _ => .stop (.next (walkFailed (walk t (unreadBits s)) s))

/-! ### Between commands -/

/-- `count` bytes from `pos` have one in common with the bytes from `lo` to `hi` exclusive. -/
def overlaps (pos count lo hi : Nat) : Bool := decide (max pos lo < min (pos + count) hi)

/-- A touch that the host must not make while this command runs (spec 20_memory R79): a read or a write of
the region of a `PREVERSE`, a write of the current input region during an `HNEXT`. -/
def touchForbidden (hu : HU) : Instr → HostTouch → Bool
  | .preverse start stop, .readBuf pos count => overlaps pos count start.toNat stop.toNat
  | .preverse start stop, .writeBuf pos bytes => overlaps pos bytes.length start.toNat stop.toNat
  | .hnext _, .writeIn offset bytes =>
    overlaps offset bytes.length hu.rstart.toNat (hu.rstart.toNat + hu.rcount.toNat)
  | _, _ => false

/-- What the host does between the issue of a command and its response (spec 70_reset R276, 20_memory R79, 93 U6).
`i` is the command, `none` for an illegal one. What it does outside the command's region does not meet the
command's own accesses (20_memory R83), so it is done first. -/
def hostMeanwhile (i : Option Instr) : List Meanwhile → State → Host.Outcome State Fault Refusal
  | [], s => .next s
  | .reset :: _, _ => .refused .resetDuringCommand
  | .command _ :: _, _ => .refused .commandBeforeResponse
  | .touch t :: rest, s =>
    if (i.map fun j => touchForbidden s.hu j t).getD false then .refused .hostTouchedRegion
    else
      match applyTouch t s with
      | .next s' => hostMeanwhile i rest s'
      | .fault f => .fault f
      | .refused r => .refused r

/-- A command word: decoded, or `ILLEGAL_COMMAND` without any change (spec 60_exceptions R238, 30_encoding R94). -/
def fetchCommand (w : CmdWord) (meanwhile : List Meanwhile) (s : State) : Fetched :=
  match decodeCommand w with
  | .ok i =>
    match hostMeanwhile (some i) meanwhile s with
    | .next s' => .run i s'
    | o => .stop o
  | .error _ =>
    match hostMeanwhile none meanwhile s with
    | .next s' => .stop (raise .illegalCommand s')
    | o => .stop o

/-- One thing the host does. -/
def fetchEvent (e : HostEvent) (s : State) : Fetched :=
  match e with
  | .reset => .stop (.next (hostReset s))
  | .touch t => .stop (applyTouch t s)
  | .command w meanwhile => fetchCommand w meanwhile s

/-- What the core does next; with nothing from the host it idles. -/
def fetch (s : State) : Fetched :=
  match s.hu.walk with
  | some c => fetchWord c s
  | none =>
    match s.inbox with
    | [] => .stop (.next s)
    | e :: rest => fetchEvent e { s with inbox := rest }

/-! ### Placing an instruction where the next step fetches it -/

/-- The byte whose bits, most significant first, these are; missing bits are zero. -/
def byteOfBits (bits : List Bool) : Byte :=
  BitVec.ofNat 8 ((List.range 8).foldl (fun n k => 2 * n + (bits.getD k false).toNat) 0)

/-- A command word as the next thing the host does, between commands. -/
def placeCommand (w : CmdWord) (s : State) : State :=
  { s with hu := { s.hu with walk := none }, inbox := .command w [] :: s.inbox }

/-- The bits of a code word at the start of a two-byte input region at offset 0 of `IN`, the bits after it
zero, and an `HNEXT` under way in the trie of `c` that has reached them. -/
def placeCode (c : Color) (bits : List Bool) (s : State) : State :=
  { s with
    inp := writeBytes s.inp 0 [byteOfBits bits, byteOfBits (bits.drop 8)]
    hu := { s.hu with hvalid := true, hfault := false, rstart := 0, rcount := 2, bitcur := 0, walk := some c } }

/-- The word of a row of spec/opcode_table.json, placed (log entry 13). -/
def placeTableWord (nbits w : Nat) (s : State) : State :=
  if nbits ≤ 16 then
    match tableCode nbits w with
    | some (c, len, _) => placeCode c (toBits len w) s
    | none => placeCode .white (toBits nbits w) s
  else placeCommand (BitVec.ofNat 96 w) s

end Sys2Proof.Machine
end

