-- ==== Sys2Proof/Safety.lean ====
section
/-! DEFINITION. The invariant of the machine, and the vocabulary the statements use: runs of commands, coded lines, cuttings of
a region, and what a correctly rounded sum is. Nothing here is read by the machine. -/

namespace Sys2Proof.Machine
open Sys2Proof

/-! ### The invariant -/

/-- `sampleSize` of a variant (spec 10_state R25). -/
def variantSize : Variant → BitVec 4
  | .i8 => 1
  | .i16 => 2
  | .i32 => 4
  | .i64 => 8
  | .f32 => 4
  | .f64 => 8

/-- A variant with integer addition. -/
def Variant.isInteger : Variant → Bool
  | .i8 | .i16 | .i32 | .i64 => true
  | .f32 | .f64 => false

/-- What a valid instance satisfies (spec 10_state R25 to R31). -/
abbrev PUInstance (cfg : Params) (pu : PU) : Prop :=
  pu.sampleSize = variantSize pu.variant ∧
  1 ≤ pu.samplesPerPixel.toNat ∧ pu.samplesPerPixel.toNat ≤ cfg.maxBands.toNat ∧
  2 ≤ pu.pixelWidth.toNat ∧
  pu.pixelStride.toNat = pu.samplesPerPixel.toNat * pu.sampleSize.toNat ∧
  pu.scanlineStride.toNat = pu.pixelWidth.toNat * pu.pixelStride.toNat ∧
  pu.column.toNat % pu.sampleSize.toNat = 0 ∧
  pu.column.toNat < pu.scanlineStride.toNat ∧
  pu.saved.length = pu.samplesPerPixel.toNat ∧
  ∀ v ∈ pu.saved, v.toNat < 2 ^ (8 * pu.sampleSize.toNat)

/-- The PU holds a valid instance, or is at its reset values (spec 40_resolver R148, 10_state R47). -/
abbrev PUInv (cfg : Params) (pu : PU) : Prop :=
  (pu.pvalid = true → PUInstance cfg pu) ∧ (pu.pvalid = false → pu = PU.reset)

/-- The HU (spec 10_state R36 to R39, 42_huffman R198, R210): no region before `HREGION`; the region inside `IN`;
the cursor inside the region; a latched cause is one of the three codes of `HNEXT`; `acc` is 0 between
commands but after such a fault. -/
abbrev HUInv (cfg : Params) (hu : HU) : Prop :=
  (hu.hvalid = false → hu = HU.reset) ∧
  hu.rstart.toNat + hu.rcount.toNat ≤ cfg.inSize.toNat ∧
  hu.bitcur ≤ 8 * hu.rcount.toNat ∧
  (hu.hfault = true → hu.walk = none ∧
    (hu.hcause = .corrupt ∨ hu.hcause = .endOfInput ∨ hu.hcause = .overflow)) ∧
  (hu.hfault = false → hu.walk = none → hu.acc = 0)

/-- The memories are in their canonical form and inside their spaces (spec 20_memory R61, R62). -/
abbrev MemInv (s : State) : Prop :=
  memWf s.buf = true ∧ memInside s.cfg.bufSize.toNat s.buf = true ∧
  memWf s.inp = true ∧ memInside s.cfg.inSize.toNat s.inp = true

/-- The invariant of the machine. -/
abbrev Inv (s : State) : Prop :=
  s.cfg.wellFormed = true ∧ PUInv s.cfg s.pu ∧ HUInv s.cfg s.hu ∧ MemInv s

/-! ### What the spec lets no command read -/

/-- A state with every register that is unspecified in it set to its reset value (spec 10_state R47, R48): the
configuration registers of the PU while `pvalid = 0`, `hcause` while `hfault = 0`. -/
def forgetUnspecified (s : State) : State :=
  { s with
    pu := if s.pu.pvalid then s.pu else { PU.reset with column := s.pu.column, saved := s.pu.saved }
    hu := { s.hu with hcause := if s.hu.hfault then s.hu.hcause else .ok } }

/-- A state with `sgn` forgotten (spec 40_resolver R142). -/
def forgetSgn (s : State) : State := { s with pu := { s.pu with sgn := false } }

/-- An outcome with its state changed. -/
def mapNext (f : State → State) :
    Host.Outcome State Fault Refusal → Host.Outcome State Fault Refusal
  | .next s => .next (f s)
  | .fault e => .fault e
  | .refused e => .refused e

/-! ### Types and geometry, as the rules list them -/

/-- The ten rows of spec 40_resolver R141: kind, bits, variant, `sampleSize`, `isFloat`, `isSigned`. -/
def typeRows : List (Kind × Nat × Variant × Nat × Bool × Bool) :=
  [(.uint, 8, .i8, 1, false, false), (.uint, 16, .i16, 2, false, false),
   (.uint, 32, .i32, 4, false, false), (.uint, 64, .i64, 8, false, false),
   (.sint, 8, .i8, 1, false, true), (.sint, 16, .i16, 2, false, true),
   (.sint, 32, .i32, 4, false, true), (.sint, 64, .i64, 8, false, true),
   (.float, 32, .f32, 4, true, true), (.float, 64, .f64, 8, true, true)]

/-- The five conditions of spec 40_resolver R146. -/
abbrev Geometry (maxBands size spp width : Nat) : Prop :=
  1 ≤ spp ∧ spp ≤ maxBands ∧ 2 ≤ width ∧ spp * size ≤ 2 ^ 32 - 1 ∧ width * spp * size ≤ 2 ^ 32 - 1

/-! ### What the host touches -/

/-- Every byte a touch names exists (spec 20_memory R61, R62). -/
def TouchExists (cfg : Params) : HostTouch → Prop
  | .readBuf pos count => pos + count ≤ cfg.bufSize.toNat
  | .writeBuf pos bytes => pos + bytes.length ≤ cfg.bufSize.toNat
  | .readIn offset count => offset + count ≤ cfg.inSize.toNat
  | .writeIn offset bytes => offset + bytes.length ≤ cfg.inSize.toNat

/-- A touch that breaks the host's duty during this command (spec 20_memory R79): it reads or writes a byte of the region
of a `PREVERSE`, or writes a byte of the current input region during an `HNEXT`. -/
def TouchMeets (hu : HU) : Instr → HostTouch → Prop
  | .preverse a b, .readBuf pos count => ∃ x, (a.toNat ≤ x ∧ x < b.toNat) ∧ pos ≤ x ∧ x < pos + count
  | .preverse a b, .writeBuf pos bytes => ∃ x, (a.toNat ≤ x ∧ x < b.toNat) ∧ pos ≤ x ∧ x < pos + bytes.length
  | .hnext _, .writeIn offset bytes =>
    ∃ x, (hu.rstart.toNat ≤ x ∧ x < hu.rstart.toNat + hu.rcount.toNat) ∧ offset ≤ x ∧ x < offset + bytes.length
  | _, _ => False

/-! ### Coded runs -/

/-- A run length of a makeup word (spec 30_encoding R103). -/
abbrev IsMakeup (v : Nat) : Prop := 64 ≤ v ∧ v ≤ 2560 ∧ v % 64 = 0

/-- A run length of a word of the tables (spec 31_code_tables R120). -/
abbrev IsRun (v : Nat) : Prop := v < 64 ∨ IsMakeup v

/-- A bit string that leaves the trie of a table at its last bit: no entry begins it, it begins no entry, and without its
last bit it does (spec 42_huffman R204). -/
abbrev DeadEnd (rows : List CodeRow) (q : List Bool) : Prop :=
  q ≠ [] ∧ (∀ r ∈ rows, ¬ r.pattern <+: q ∧ ¬ q <+: r.pattern) ∧ ∃ r ∈ rows, q.dropLast <+: r.pattern

/-- The words of some run lengths in a table of a build, one after the other. -/
def wordsBits (t : CodeTables) (c : Color) (runs : List Nat) : List Bool := runs.flatMap (patternOf t c)

/-- A coded run (spec 30_encoding R104): makeup words, then one terminating word. -/
structure CodedRun where
  makeups : List Nat
  last : Nat
deriving DecidableEq, Repr

/-- The run is coded as R104 says and its length fits the accumulator. -/
abbrev CodedRun.Valid (r : CodedRun) : Prop :=
  (∀ m ∈ r.makeups, IsMakeup m) ∧ r.last < 64 ∧ r.makeups.sum + r.last ≤ accMax

/-- The length of the run. -/
def CodedRun.length (r : CodedRun) : Nat := r.makeups.sum + r.last

/-- The bits of the run in the table a build has for a colour. -/
def CodedRun.bits (t : CodeTables) (c : Color) (r : CodedRun) : List Bool := wordsBits t c (r.makeups ++ [r.last])

/-- The bits of consecutive runs read by `HNEXT sel`, the first when the colour register is `color`
(spec 42_huffman R201, R213). -/
def lineBits (t : CodeTables) (sel : Sel) : Color → List CodedRun → List Bool
  | _, [] => []
  | color, r :: rs => r.bits t (selColor color sel) ++ lineBits t sel (Color.flip color) rs

/-- The responses to those `HNEXT`. -/
def lineResponses : Color → List CodedRun → List (Option Response)
  | _, [] => []
  | color, r :: rs =>
    some { st := .ok, aux := colorAux (Color.flip color), r := BitVec.ofNat 32 r.length } ::
      lineResponses (Color.flip color) rs

/-! ### Sequences of commands -/

/-- Execute commands one after the other and collect the responses; `none` if one does not answer. -/
def execAll : List Instr → State → Option (List (Option Response) × State)
  | [], s => some ([], s)
  | i :: is, s =>
    match exec i s with
    | .next t => (execAll is t).map fun x => (t.rsp :: x.1, x.2)
    | .fault _ => none
    | .refused _ => none

/-- A region presented in pieces (spec 41_predictor R176, R178): the first piece begins at `start`, each next
one where the one before returned; `stops` are the ends of the pieces. -/
def presentPieces : List Word → Word → State → Host.Outcome State Fault Refusal
  | [], _, s => .next s
  | stop :: stops, start, s =>
    match exec (.preverse start stop) s with
    | .next t => presentPieces stops ((t.rsp.map (·.r)).getD 0) t
    | .fault f => .fault f
    | .refused r => .refused r

/-! ### Samples of a region -/

/-- Sample `k` of the region that begins at `a`, as the bytes of a memory give it. -/
def sampleAt (pu : PU) (m : List Host.Cell) (a k : Nat) : Sample :=
  loadSample pu.byteOrder pu.sampleSize.toNat m (a + k * pu.sampleSize.toNat)

/-- The encoder of spec 41_predictor R179 on a stream of samples, at sample `j`. -/
def encodedAt (pu : PU) (x : Nat → Sample) (j : Nat) : Nat :=
  if j * pu.sampleSize.toNat % pu.scanlineStride.toNat < pu.pixelStride.toNat then (x j).toNat
  else
    ((x j).toNat + 2 ^ (8 * pu.sampleSize.toNat) - (x (j - pu.samplesPerPixel.toNat)).toNat) %
      2 ^ (8 * pu.sampleSize.toNat)

/-! ### Rounding -/

/-- A finite packed value of the format. -/
abbrev FloatFinite (ew fw x : Nat) : Prop := x < 2 ^ (ew + fw + 1) ∧ floatExp ew fw x ≠ floatTop ew

/-- The magnitude, in units of the smallest subnormal, from which on a sum rounds to an infinity: half a unit
in the last place above the largest finite value. -/
def floatOverflowAt (ew fw : Nat) : Nat := (2 ^ (fw + 2) - 1) * 2 ^ (floatTop ew - 3)

/-- `r` is `sum` rounded to nearest, ties to even (spec 41_predictor R172): an infinity of the sign of the sum
when the magnitude is `floatOverflowAt` or more; otherwise a finite value nearer to the sum than every other
finite value, or as near as another and even. -/
def NearestEven (ew fw : Nat) (sum : Int) (r : Nat) : Prop :=
  if floatOverflowAt ew fw ≤ sum.natAbs then
    floatIsInf ew fw r = true ∧ floatSign ew fw r = decide (sum < 0)
  else
    FloatFinite ew fw r ∧
    ∀ z, FloatFinite ew fw z →
      floatVal ew fw z = floatVal ew fw r ∨
      (floatVal ew fw r - sum).natAbs < (floatVal ew fw z - sum).natAbs ∨
      ((floatVal ew fw r - sum).natAbs = (floatVal ew fw z - sum).natAbs ∧ r % 2 = 0)

end Sys2Proof.Machine
end

