-- ==== Sys2Proof/Certificates/Slice0/Obligations.lean ====
section
/-! DEFINITION. The statements. Each docstring names the rule of spec/ it formalises; OBLIGATIONS.json says which are the spec's own
words and which are derived. -/

open Sys2Proof Sys2Proof.Machine

/-! ### Encoding -/

/-- Command words written out in spec 95_test_vectors and 95_test_vectors_derived decode to the commands they
stand for (30_encoding R90, R91, R93). -/
def Obligations.CommandWordsOfTheVectorsDecode : Prop :=
  decodeCommand 0x010100100000000000000000 = .ok (.resolve .sint 16) ∧
  decodeCommand 0x020000080000000300000004 = .ok (.pcreate .uint 8 .le 3 4) ∧
  decodeCommand 0x020600400000000300000002 = .ok (.pcreate .float 64 .be 3 2) ∧
  decodeCommand 0x030000000000000500000017 = .ok (.preverse 5 23) ∧
  decodeCommand 0x100000000000000A00000002 = .ok (.hregion 10 2) ∧
  decodeCommand 0x110000000000000000000000 = .ok .hline ∧
  decodeCommand 0x120100000000000000000000 = .ok (.hnext .b) ∧
  decodeCommand 0x120200000000000000000000 = .ok (.hnext .cur)

/-- The bit patterns the document prints (spec 31_code_tables R125), in the default tables: `00110101` is WHITE 0, `11011` is
WHITE 64, and `00000000` is in neither table. -/
def Obligations.PrintedCodeWordsDecode : Prop :=
  decodeWord .standard .white [false, false, true, true, false, true, false, true] = .ok (.mhw0, 8) ∧
  decodeWord .standard .white [true, true, false, true, true] = .ok (.mhw64, 5) ∧
  ∀ c, decodeWord .standard c (List.replicate 8 false) = .error .noPath

/-- Decoding the encoding of any instruction gives it back, every operand at every value, in every build whose code tables are
tables hardware can be built from (spec 30_encoding R91, R97, R99, R100, 31_code_tables R122, 00_scope R9). -/
def Obligations.EveryInstructionDecodesBack : Prop :=
  ∀ (tables : CodeTables) (i : Instr), tablesWellFormed tables = true →
    decode tables (encode tables i) = .ok i

/-- No command has a second encoding (spec 30_encoding R94). -/
def Obligations.CommandHasOneEncoding : Prop :=
  ∀ (tables : CodeTables) (w : CmdWord) (i : Instr), decodeCommand w = .ok i → encode tables i = .command w

/-- A command word decodes exactly when its opcode is one of the six, its reserved bits are zero, and its `kind`
and `sel` are not 3 (spec 30_encoding R92, R93, R94). -/
def Obligations.ExactlyTheLegalCommandsDecode : Prop :=
  ∀ w : CmdWord, (∃ i, decodeCommand w = .ok i) ↔ (fieldsOf w).wellFormed = true

/-- Walking a ROM is prefix matching against its table, for all tables hardware can be built from: a leaf is reached exactly
when an entry's pattern begins the stream, with that entry's run length and number of bits; and the walk finds no path
exactly when the stream begins with a bit string that leaves the table at its last bit, having read just those bits
(spec 42_huffman R196, R203, R204, 30_encoding R102). -/
def Obligations.WalkIsPrefixMatching : Prop :=
  ∀ (tables : CodeTables) (c : Color) (t : List RomEntry) (bits : List Bool),
    tablesWellFormed tables = true → rom tables c = some t →
    (∀ run used : Nat, walk t bits = .leaf run used ↔
      ∃ r ∈ codeTable tables c, r.run = run ∧ r.len = used ∧ r.pattern <+: bits) ∧
    ∀ used : Nat, walk t bits = .noPath used ↔
      ∃ q, DeadEnd (codeTable tables c) q ∧ q.length = used ∧ q <+: bits

/-- In the default tables the one path without a leaf is `00000000`, found on the eighth bit (spec 42_huffman R204,
31_code_tables R123). The default tables are PRESUMED, log entry 9. -/
def Obligations.OnlyEightZerosHaveNoPath : Prop :=
  ∀ (c : Color) (t : List RomEntry) (bits : List Bool) (used : Nat), rom .standard c = some t →
    (walk t bits = .noPath used ↔ used = 8 ∧ List.replicate 8 false <+: bits)

/-- The ROM of every build is the flattened trie of its code table, each entry a 16-bit two's-complement number; there is none
exactly when two entries of the table collide, or an entry of the image does not fit; and the printed images are those of
the default tables (spec 42_huffman R193 to R195, 30_encoding R112, 00_scope R11, 31_code_tables R132, R133). -/
def Obligations.RomsAreTheFlattenedTries : Prop :=
  (∀ (tables : CodeTables) (c : Color) (t : List RomEntry),
    rom tables c = some t ↔
      ∃ trie, buildTrie (codeTable tables c) = some trie ∧
        (∀ e ∈ Trie.emit 0 trie, -2 ^ 15 ≤ e ∧ e < 2 ^ 15) ∧ t.map BitVec.toInt = Trie.emit 0 trie) ∧
  rom .standard .white = some romWhite ∧ rom .standard .black = some romBlack

/-- The order of the entries of a code table does not change what is built from it (spec 42_huffman R193). -/
def Obligations.TableOrderDoesNotChangeTheRom : Prop :=
  ∀ rows rows' : List CodeRow, rows.Perm rows' → buildTrie rows = buildTrie rows' ∧ buildRom rows = buildRom rows'

/-- A code table in which one entry's pattern is a prefix of another's, or equal to it, has no trie and no ROM; an `HNEXT` that
would read it, in a state in which nothing else turns it away, is refused (spec 42_huffman R194, 93 U19). That the refusal
comes at the first `HNEXT` is the model's choice, log entry 16. -/
def Obligations.CollidingTablesAreRefused : Prop :=
  ∀ (s : State) (sel : Sel),
    ¬ (codeTable s.cfg.tables (selColor s.hu.color sel)).Pairwise
      (fun r q => ¬ r.pattern <+: q.pattern ∧ ¬ q.pattern <+: r.pattern) →
    buildTrie (codeTable s.cfg.tables (selColor s.hu.color sel)) = none ∧
    rom s.cfg.tables (selColor s.hu.color sel) = none ∧
    (s.hu.hvalid = true → s.hu.hfault = false →
      s.hu.rstart.toNat + s.hu.rcount.toNat ≤ s.cfg.inSize.toNat →
      exec (.hnext sel) s = .refused .noHardware)

/-- In each default table no pattern is a prefix of, or equal to, another's; building the trie succeeds; and `00000000` is the
one minimal bit string that is neither an entry nor a proper prefix of one: every bit string begins with an entry, or is a
proper prefix of an entry, or begins with `00000000` (spec 31_code_tables R122, R123). -/
def Obligations.CodeTablesArePrefixFree : Prop :=
  ∀ c : Color,
    (∀ r ∈ codeTable .standard c, ∀ q ∈ codeTable .standard c, r.pattern <+: q.pattern → r = q) ∧
    (buildTrie (codeTable .standard c)).isSome = true ∧
    (∀ r ∈ codeTable .standard c,
      ¬ r.pattern <+: List.replicate 8 false ∧ ¬ List.replicate 8 false <+: r.pattern) ∧
    ∀ bits : List Bool,
      (∃ r ∈ codeTable .standard c, r.pattern <+: bits) ∨
      (∃ r ∈ codeTable .standard c, bits <+: r.pattern ∧ bits ≠ r.pattern) ∨
      List.replicate 8 false <+: bits

/-! ### The step -/

/-- Between commands, a command word that decodes to `i` makes the step execute `i`, the word being taken from what
the host sends (spec 10_state R22, 00_scope R16). How the host stands in the state is the model's choice, log entry 3. -/
def Obligations.StepRunsTheDecodedCommand : Prop :=
  ∀ (s : State) (w : CmdWord) (rest : List HostEvent) (i : Instr),
    s.hu.walk = none → s.inbox = .command w [] :: rest → decodeCommand w = .ok i →
    step s = exec i { s with inbox := rest }

/-- Inside an `HNEXT`, the step executes the code word at the bit cursor; nothing moves before it runs
(spec 42_huffman R202, R203). That a code word is a step of its own, and the field `walk` that says an `HNEXT` is under way,
are the model's choice, log entry 4. -/
def Obligations.StepRunsTheCodeWordAtTheCursor : Prop :=
  ∀ (s : State) (c : Color) (i : Instr) (used : Nat),
    s.hu.walk = some c → s.hu.rstart.toNat + s.hu.rcount.toNat ≤ s.cfg.inSize.toNat →
    decodeWord s.cfg.tables c (unreadBits s) = .ok (i, used) →
    step s = exec i s

/-- With nothing from the host the core does nothing (spec 10_state R22, 70_reset R276). The idle step is the model's
reading, log entry 3. -/
def Obligations.CoreIdlesWithoutCommands : Prop :=
  ∀ s : State, s.hu.walk = none → s.inbox = [] → step s = .next s

/-- An illegal command answers `ILLEGAL_COMMAND` with `aux = 0`, `r = 0` and changes nothing else
(spec 30_encoding R92, 60_exceptions R238). -/
def Obligations.IllegalCommandHasNoEffect : Prop :=
  ∀ (s : State) (w : CmdWord) (rest : List HostEvent),
    s.hu.walk = none → s.inbox = .command w [] :: rest → (fieldsOf w).wellFormed = false →
    step s = .next { s with inbox := rest, rsp := some { st := .illegalCommand, aux := 0, r := 0 } }

/-- A run whose host touches the region of a running command, after whatever it may touch, is refused: it reads or writes a byte
of the region of a `PREVERSE`, or writes one of the current input region during an `HNEXT`. Every other touch of existing
bytes is made, whichever the command, legal or not, and however many the touches, and so is every touch between commands: a
read changes nothing, a write changes its bytes and nothing else (spec 20_memory R79). That permitted touches are made before
the command is the model's choice, log entry 14. That a write of the current input region before the next `HREGION`, between
commands or during one other than `HNEXT`, is such a touch and is made is the model's choice too, log entry 10: R79 allows
it, 20_memory R74 and 70_reset R276 forbid it. -/
def Obligations.HostTouchOfARunningRegionIsRefused : Prop :=
  (∀ (s : State) (w : CmdWord) (i : Instr) (before : List HostTouch) (t : HostTouch) (more : List Meanwhile)
      (rest : List HostEvent),
    s.hu.walk = none → decodeCommand w = .ok i →
    (∀ u ∈ before, TouchExists s.cfg u ∧ ¬ TouchMeets s.hu i u) → TouchMeets s.hu i t →
    s.inbox = .command w (before.map .touch ++ .touch t :: more) :: rest →
    step s = .refused .hostTouchedRegion) ∧
  (∀ (s : State) (w : CmdWord) (i : Instr) (ts : List HostTouch) (rest : List HostEvent),
    s.hu.walk = none → decodeCommand w = .ok i →
    (∀ t ∈ ts, TouchExists s.cfg t ∧ ¬ TouchMeets s.hu i t) →
    s.inbox = .command w (ts.map .touch) :: rest →
    step s = exec i (ts.foldl touchState { s with inbox := rest })) ∧
  (∀ (s : State) (w : CmdWord) (ts : List HostTouch) (rest : List HostEvent),
    s.hu.walk = none → (fieldsOf w).wellFormed = false → (∀ t ∈ ts, TouchExists s.cfg t) →
    s.inbox = .command w (ts.map .touch) :: rest →
    step s = .next { ts.foldl touchState { s with inbox := rest } with
      rsp := some { st := .illegalCommand, aux := 0, r := 0 } }) ∧
  (∀ (s : State) (t : HostTouch) (rest : List HostEvent),
    s.hu.walk = none → TouchExists s.cfg t → s.inbox = .touch t :: rest →
    step s = .next (touchState { s with inbox := rest } t)) ∧
  ∀ (s : State) (x count : Nat) (bytes : List Byte),
    touchState s (.readBuf x count) = s ∧ touchState s (.readIn x count) = s ∧
    ({ touchState s (.writeBuf x bytes) with buf := s.buf } : State) = s ∧
    ({ touchState s (.writeIn x bytes) with inp := s.inp } : State) = s ∧
    ∀ y, memGet? (touchState s (.writeBuf x bytes)).buf y =
        (if x ≤ y ∧ y < x + bytes.length then bytes[y - x]? else memGet? s.buf y) ∧
      memGet? (touchState s (.writeIn x bytes)).inp y =
        (if x ≤ y ∧ y < x + bytes.length then bytes[y - x]? else memGet? s.inp y)

/-- A second command or a reset before the response is refused, whatever else the host does after it
(spec 70_reset R276, R260). -/
def Obligations.SecondCommandOrResetDuringACommandIsRefused : Prop :=
  ∀ (s : State) (w w' : CmdWord) (more : List Meanwhile) (rest : List HostEvent), s.hu.walk = none →
    (s.inbox = .command w (.command w' :: more) :: rest → step s = .refused .commandBeforeResponse) ∧
    (s.inbox = .command w (.reset :: more) :: rest → step s = .refused .resetDuringCommand)

/-- `BUF` and `IN` have the addresses below `BUF_SIZE` and `IN_SIZE` and no others: a host that reads or writes a byte beyond
stops the machine (spec 20_memory R61, R62). That it stops is the model's choice, log entry 15. -/
def Obligations.AddressesOutsideAMemoryFault : Prop :=
  ∀ (s : State) (rest : List HostEvent) (x count : Nat) (bytes : List Byte), s.hu.walk = none →
    (s.cfg.bufSize.toNat < x + bytes.length → s.inbox = .touch (.writeBuf x bytes) :: rest →
      step s = .fault .noSuchBufAddress) ∧
    (s.cfg.bufSize.toNat < x + count → s.inbox = .touch (.readBuf x count) :: rest →
      step s = .fault .noSuchBufAddress) ∧
    (s.cfg.inSize.toNat < x + bytes.length → s.inbox = .touch (.writeIn x bytes) :: rest →
      step s = .fault .noSuchInAddress) ∧
    (s.cfg.inSize.toNat < x + count → s.inbox = .touch (.readIn x count) :: rest →
      step s = .fault .noSuchInAddress)

/-! ### Reset -/

/-- The registers the spec gives a reset value have it after power-on of every build, and after a reset the host asserts
between commands, which leaves `BUF` and `IN` as they are; a reset during a command has no meaning
(spec 70_reset R260, R262, 10_state R47). That no response stands after it is the model's choice, log entry 3. -/
def Obligations.ResetLeavesTheStatedValues : Prop :=
  (∀ s : State, ((∃ p, s = State.resetOf p) ∨ (∃ u, s = hostReset u)) →
    s.pu.pvalid = false ∧ s.hu.hvalid = false ∧ s.hu.hfault = false ∧ s.hu.color = .white ∧
    s.hu.acc = 0 ∧ s.pu.column = 0 ∧ (∀ band, savedGet s.pu.saved band = 0) ∧
    s.hu.rstart = 0 ∧ s.hu.rcount = 0 ∧ s.hu.bitcur = 0) ∧
  (∀ (s : State) (rest : List HostEvent), s.hu.walk = none → s.inbox = .reset :: rest →
    step s = .next (hostReset { s with inbox := rest }) ∧
    (hostReset { s with inbox := rest }).buf = s.buf ∧ (hostReset { s with inbox := rest }).inp = s.inp) ∧
  (∀ (s : State) (w : CmdWord) (more : List Meanwhile) (rest : List HostEvent), s.hu.walk = none →
    s.inbox = .command w (.reset :: more) :: rest → step s = .refused .resetDuringCommand)

/-- The invariant holds after reset, for every build (spec 10_state R47). The empty carry buffer and the zero
configuration registers are the model's choice, log entries 2 and 6. -/
def Obligations.InvariantHoldsAfterReset : Prop :=
  ∀ p : Params, p.wellFormed = true → Inv (State.resetOf p)

/-! ### RESOLVE and PCREATE -/

/-- `RESOLVE` answers the byte width and the interpretation of the ten listed types and `UNSUPPORTED` for every other
pair, and changes no register (spec 40_resolver R141, R143, R145, 30_encoding R98). -/
def Obligations.ResolveAnswersPerTheTable : Prop :=
  ∀ (s : State) (kind : Kind) (bits : BitVec 16),
    (∀ (v : Variant) (size : Nat) (isFloat isSigned : Bool),
      (kind, bits.toNat, v, size, isFloat, isSigned) ∈ typeRows →
      exec (.resolve kind bits) s =
        .next { s with
          rsp := some { st := .ok, aux := BitVec.ofNat 8 (size + 16 * isFloat.toNat + 32 * isSigned.toNat),
                        r := 0 } }) ∧
    ((∀ row ∈ typeRows, (row.1, row.2.1) ≠ (kind, bits.toNat)) →
      exec (.resolve kind bits) s = .next { s with rsp := some { st := .unsupported, aux := 0, r := 0 } })

/-- A `PCREATE` of a supported type and a good geometry builds the instance: type and geometry registers, strides as
products, `column = 0`, a carry buffer of zeros, one entry per band; it answers `scanlineStride`, and changes
nothing else (spec 40_resolver R147, 10_state R28). -/
def Obligations.PcreateBuildsTheInstance : Prop :=
  ∀ (s : State) (kind : Kind) (bits : BitVec 16) (order : ByteOrder) (spp width : Word)
    (v : Variant) (size : Nat) (isFloat isSigned : Bool),
    (kind, bits.toNat, v, size, isFloat, isSigned) ∈ typeRows →
    Geometry s.cfg.maxBands.toNat size spp.toNat width.toNat →
    ∃ pu : PU,
      exec (.pcreate kind bits order spp width) s =
        .next { s with
          pu := pu
          rsp := some { st := .ok, aux := BitVec.ofNat 8 (size + 16 * isFloat.toNat + 32 * isSigned.toNat),
                        r := pu.scanlineStride } } ∧
      pu.pvalid = true ∧ pu.variant = v ∧ pu.sgn = isSigned ∧ pu.sampleSize.toNat = size ∧
      pu.byteOrder = order ∧ pu.samplesPerPixel = spp ∧ pu.pixelWidth = width ∧
      pu.pixelStride.toNat = spp.toNat * size ∧
      pu.scanlineStride.toNat = width.toNat * spp.toNat * size ∧
      pu.column = 0 ∧ pu.saved.length = spp.toNat ∧ ∀ band, savedGet pu.saved band = 0

/-- A `PCREATE` of an unsupported type answers `UNSUPPORTED`, whatever its geometry; one of a supported type whose
geometry fails answers `GEOMETRY`; both leave the PU at its reset values, losing an instance that was valid, and
change nothing else; one that faults `ILLEGAL_COMMAND` changes nothing (spec 40_resolver R146, R148, R151). The reset
values of the registers that R47 leaves unspecified are the model's choice, log entry 2. -/
def Obligations.PcreateFailureLeavesNoInstance : Prop :=
  ∀ (s : State) (kind : Kind) (bits : BitVec 16) (order : ByteOrder) (spp width : Word),
    ((∀ row ∈ typeRows, (row.1, row.2.1) ≠ (kind, bits.toNat)) →
      exec (.pcreate kind bits order spp width) s =
        .next { s with pu := PU.reset, rsp := some { st := .unsupported, aux := 0, r := 0 } }) ∧
    (∀ (v : Variant) (size : Nat) (isFloat isSigned : Bool),
      (kind, bits.toNat, v, size, isFloat, isSigned) ∈ typeRows →
      ¬ Geometry s.cfg.maxBands.toNat size spp.toNat width.toNat →
      exec (.pcreate kind bits order spp width) s =
        .next { s with pu := PU.reset, rsp := some { st := .geometry, aux := 0, r := 0 } }) ∧
    (∀ (w : CmdWord) (rest : List HostEvent), s.hu.walk = none → s.inbox = .command w [] :: rest →
      (fieldsOf w).op = 0x02 → (fieldsOf w).wellFormed = false →
      step s = .next { s with inbox := rest, rsp := some { st := .illegalCommand, aux := 0, r := 0 } })

/-- The signedness of an instance is read by no command: with `sgn` changed, every command does the same but for `sgn`
itself (spec 40_resolver R142, 41_predictor R175). -/
def Obligations.SignednessIsReadByNoCommand : Prop :=
  ∀ (i : Instr) (s : State) (b : Bool),
    mapNext forgetSgn (exec i { s with pu := { s.pu with sgn := b } }) = mapNext forgetSgn (exec i s)

/-! ### Samples -/

/-- A loaded sample is made of the bytes from its position, least significant first in `LE` and most significant
first in `BE`, without extension (spec 20_memory R65). -/
def Obligations.LoadSampleAssemblesItsBytes : Prop :=
  ∀ (m : List Host.Cell) (pos size : Nat), size ≤ 8 →
    (∀ i < size,
      (loadSample .le size m pos).extractLsb' (8 * i) 8 = readByte .buf m (pos + i) ∧
      (loadSample .be size m pos).extractLsb' (8 * i) 8 = readByte .buf m (pos + (size - 1 - i))) ∧
    ∀ order, (loadSample order size m pos).toNat < 2 ^ (8 * size)

/-- A stored sample writes exactly its bytes, in the instance's order, and reads back (spec 20_memory R66). -/
def Obligations.StoreSampleWritesExactlyItsBytes : Prop :=
  ∀ (m : List Host.Cell) (pos size : Nat) (v : Sample), size ≤ 8 →
    (∀ i < size,
      memGet? (storeSample .le size m pos v) (pos + i) = some (v.extractLsb' (8 * i) 8) ∧
      memGet? (storeSample .be size m pos v) (pos + i) = some (v.extractLsb' (8 * (size - 1 - i)) 8)) ∧
    (∀ order, ∀ x, x < pos ∨ pos + size ≤ x → memGet? (storeSample order size m pos v) x = memGet? m x) ∧
    (∀ order, v.toNat < 2 ^ (8 * size) → loadSample order size (storeSample order size m pos v) pos = v)

/-- The four integer additions are modulo 2^8, 2^16, 2^32 and 2^64, on the low bits of the samples
(spec 41_predictor R168 to R171). -/
def Obligations.IntegerAdditionsWrap : Prop :=
  ∀ (impl : FloatAdd) (d prev : Sample),
    (sampleAdd impl .i8 d prev).toNat = (d.toNat + prev.toNat) % 2 ^ 8 ∧
    (sampleAdd impl .i16 d prev).toNat = (d.toNat + prev.toNat) % 2 ^ 16 ∧
    (sampleAdd impl .i32 d prev).toNat = (d.toNat + prev.toNat) % 2 ^ 32 ∧
    (sampleAdd impl .i64 d prev).toNat = (d.toNat + prev.toNat) % 2 ^ 64

/-- The default binary32 and binary64 additions of two finite values are the exact sum rounded to nearest, ties to
even, subnormals kept (spec 41_predictor R172, R173, 00_scope R10). The formats are PRESUMED, log entry 8. -/
def Obligations.DefaultFloatAdditionIsCorrectlyRounded : Prop :=
  (∀ x y : BitVec 32, FloatFinite 8 23 x.toNat → FloatFinite 8 23 y.toNat →
    NearestEven 8 23 (floatVal 8 23 x.toNat + floatVal 8 23 y.toNat) (fadd32 .ieee x y).toNat) ∧
  (∀ x y : BitVec 64, FloatFinite 11 52 x.toNat → FloatFinite 11 52 y.toNat →
    NearestEven 11 52 (floatVal 11 52 x.toNat + floatVal 11 52 y.toNat) (fadd64 .ieee x y).toNat)

/-- Special values of the default binary32 and binary64 additions: a NaN operand, or infinities of opposite signs, give a quiet
NaN; any other infinity is the sum (spec 41_predictor R172, R173, R174). PRESUMED, log entries 7 and 8. -/
def Obligations.DefaultFloatAdditionOfSpecialValues : Prop :=
  (∀ x y : BitVec 32,
    ((floatIsNaN 8 23 x.toNat = true ∨ floatIsNaN 8 23 y.toNat = true ∨
      (floatIsInf 8 23 x.toNat = true ∧ floatIsInf 8 23 y.toNat = true ∧ x.getLsbD 31 ≠ y.getLsbD 31)) →
      floatIsNaN 8 23 (fadd32 .ieee x y).toNat = true ∧ (fadd32 .ieee x y).getLsbD 22 = true) ∧
    (floatIsInf 8 23 x.toNat = true → floatIsNaN 8 23 y.toNat = false →
      (floatIsInf 8 23 y.toNat = true → x.getLsbD 31 = y.getLsbD 31) →
      fadd32 .ieee x y = x ∧ fadd32 .ieee y x = x)) ∧
  (∀ x y : BitVec 64,
    ((floatIsNaN 11 52 x.toNat = true ∨ floatIsNaN 11 52 y.toNat = true ∨
      (floatIsInf 11 52 x.toNat = true ∧ floatIsInf 11 52 y.toNat = true ∧ x.getLsbD 63 ≠ y.getLsbD 63)) →
      floatIsNaN 11 52 (fadd64 .ieee x y).toNat = true ∧ (fadd64 .ieee x y).getLsbD 51 = true) ∧
    (floatIsInf 11 52 x.toNat = true → floatIsNaN 11 52 y.toNat = false →
      (floatIsInf 11 52 y.toNat = true → x.getLsbD 63 = y.getLsbD 63) →
      fadd64 .ieee x y = x ∧ fadd64 .ieee y x = x))

/-! ### PREVERSE -/

/-- Without an instance `PREVERSE` answers `NOT_READY`; with one, a region that is inverted or reaches outside `BUF`
answers `RANGE`; neither changes anything else (spec 41_predictor R161, 60_exceptions R236, R237). -/
def Obligations.PreverseRefusesBeforeAnyAccess : Prop :=
  ∀ (s : State) (a b : Word),
    (s.pu.pvalid = false →
      exec (.preverse a b) s = .next { s with rsp := some { st := .notReady, aux := 0, r := 0 } }) ∧
    (s.pu.pvalid = true → (b.toNat < a.toNat ∨ s.cfg.bufSize.toNat < b.toNat) →
      exec (.preverse a b) s = .next { s with rsp := some { st := .range, aux := 0, r := 0 } })

/-- A `PREVERSE` of a region inside `BUF` completes: it changes `BUF`, the carry buffer and `column` and nothing else,
answers the position after the last complete sample, less than a sample before the end of the region, and moves
`column` over the samples, modulo the row, a multiple of the sample size inside the row (spec 41_predictor R162, R167). -/
def Obligations.PreverseCompletesAndMovesTheCursor : Prop :=
  ∀ (s : State) (a b : Word),
    s.pu.pvalid = true → PUInstance s.cfg s.pu → a.toNat ≤ b.toNat → b.toNat ≤ s.cfg.bufSize.toNat →
    ∃ (buf : List Host.Cell) (saved : List Sample) (column ret : Word),
      exec (.preverse a b) s =
        .next { s with buf := buf, pu := { s.pu with saved := saved, column := column },
                       rsp := some { st := .ok, aux := 0, r := ret } } ∧
      ret.toNat = a.toNat + (b.toNat - a.toNat) / s.pu.sampleSize.toNat * s.pu.sampleSize.toNat ∧
      ret.toNat ≤ b.toNat ∧ b.toNat - ret.toNat < s.pu.sampleSize.toNat ∧
      column.toNat = (s.pu.column.toNat + (ret.toNat - a.toNat)) % s.pu.scanlineStride.toNat ∧
      column.toNat % s.pu.sampleSize.toNat = 0 ∧ column.toNat < s.pu.scanlineStride.toNat

/-- Every complete sample of the region is decoded: one in the first pixel of a row keeps its value; any other becomes the
variant's sum of its stored value and the decoded value one pixel before it, taken from `BUF` when that lies in the
region and from the carry buffer as it was before the call otherwise (spec 41_predictor R163, R164, R165). -/
def Obligations.PreverseDecodesEverySample : Prop :=
  ∀ (s : State) (a b : Word),
    s.pu.pvalid = true → PUInstance s.cfg s.pu → a.toNat ≤ b.toNat → b.toNat ≤ s.cfg.bufSize.toNat →
    ∃ t, exec (.preverse a b) s = .next t ∧
      ∀ k < (b.toNat - a.toNat) / s.pu.sampleSize.toNat,
        let c := (s.pu.column.toNat + k * s.pu.sampleSize.toNat) % s.pu.scanlineStride.toNat
        let band := c % s.pu.pixelStride.toNat / s.pu.sampleSize.toNat
        (c < s.pu.pixelStride.toNat →
          sampleAt s.pu t.buf a.toNat k = sampleAt s.pu s.buf a.toNat k) ∧
        (s.pu.pixelStride.toNat ≤ c →
          sampleAt s.pu t.buf a.toNat k =
            sampleAdd s.cfg.fadd s.pu.variant (sampleAt s.pu s.buf a.toNat k)
              (if s.pu.pixelStride.toNat ≤ k * s.pu.sampleSize.toNat
                then sampleAt s.pu t.buf a.toNat (k - s.pu.samplesPerPixel.toNat)
                else savedGet s.pu.saved band))

/-- After a call the carry buffer holds, for each band, the last value decoded for it in the call, and its old value if
the call decoded none (spec 41_predictor R166). -/
def Obligations.PreverseCarriesTheLastSampleOfEachBand : Prop :=
  ∀ (s : State) (a b : Word),
    s.pu.pvalid = true → PUInstance s.cfg s.pu → a.toNat ≤ b.toNat → b.toNat ≤ s.cfg.bufSize.toNat →
    ∃ t, exec (.preverse a b) s = .next t ∧
      ∀ band < s.pu.samplesPerPixel.toNat,
        (∀ k < (b.toNat - a.toNat) / s.pu.sampleSize.toNat, sampleBand s.pu k = band →
          (∀ k', k < k' → k' < (b.toNat - a.toNat) / s.pu.sampleSize.toNat → sampleBand s.pu k' ≠ band) →
          savedGet t.pu.saved band = sampleAt s.pu t.buf a.toNat k) ∧
        ((∀ k < (b.toNat - a.toNat) / s.pu.sampleSize.toNat, sampleBand s.pu k ≠ band) →
          savedGet t.pu.saved band = savedGet s.pu.saved band)

/-- `PREVERSE` writes no byte outside the complete samples of its region, and no byte of a first pixel
(spec 20_memory R83, 41_predictor R164, R176). -/
def Obligations.PreverseLeavesEveryOtherByte : Prop :=
  ∀ (s : State) (a b : Word),
    s.pu.pvalid = true → PUInstance s.cfg s.pu → a.toNat ≤ b.toNat → b.toNat ≤ s.cfg.bufSize.toNat →
    ∃ t, exec (.preverse a b) s = .next t ∧
      (∀ x, (x < a.toNat ∨
          a.toNat + (b.toNat - a.toNat) / s.pu.sampleSize.toNat * s.pu.sampleSize.toNat ≤ x) →
        memGet? t.buf x = memGet? s.buf x) ∧
      (∀ k < (b.toNat - a.toNat) / s.pu.sampleSize.toNat,
        (s.pu.column.toNat + k * s.pu.sampleSize.toNat) % s.pu.scanlineStride.toNat < s.pu.pixelStride.toNat →
        ∀ j < s.pu.sampleSize.toNat,
          memGet? t.buf (a.toNat + k * s.pu.sampleSize.toNat + j) =
            memGet? s.buf (a.toNat + k * s.pu.sampleSize.toNat + j))

/-- `PREVERSE` reads no byte outside the complete samples of its region: two states that agree on those bytes get the
same carry buffer, the same cursor, the same response and the same decoded bytes (spec 20_memory R83, 41_predictor
R176). -/
def Obligations.PreverseReadsNoOtherByte : Prop :=
  ∀ (s : State) (buf' : List Host.Cell) (a b : Word) (t : State),
    s.pu.pvalid = true → PUInstance s.cfg s.pu → a.toNat ≤ b.toNat → b.toNat ≤ s.cfg.bufSize.toNat →
    (∀ x, a.toNat ≤ x → x < a.toNat + (b.toNat - a.toNat) / s.pu.sampleSize.toNat * s.pu.sampleSize.toNat →
      memGet? buf' x = memGet? s.buf x) →
    exec (.preverse a b) s = .next t →
    ∃ t', exec (.preverse a b) { s with buf := buf' } = .next t' ∧
      t'.pu = t.pu ∧ t'.rsp = t.rsp ∧
      ∀ x, a.toNat ≤ x →
        x < a.toNat + (b.toNat - a.toNat) / s.pu.sampleSize.toNat * s.pu.sampleSize.toNat →
        memGet? t'.buf x = memGet? t.buf x

/-- A region presented in pieces cut at any byte offsets, each piece starting where the one before returned, ends in the
very state that presenting it in one call ends in, for all six variants (spec 41_predictor R178). -/
def Obligations.AnyCuttingOfARegionDecodesAlike : Prop :=
  ∀ (s : State) (start stop : Word) (cuts : List Word),
    s.pu.pvalid = true → PUInstance s.cfg s.pu → stop.toNat ≤ s.cfg.bufSize.toNat →
    List.IsChain (fun x y : Word => x.toNat ≤ y.toNat) (start :: cuts ++ [stop]) →
    presentPieces (cuts ++ [stop]) start s = exec (.preverse start stop) s

/-- For the integer variants, `PREVERSE` applied to the differences of a stream of samples yields the stream, wraparound
included (spec 41_predictor R179). -/
def Obligations.IntegerDifferencesRoundTrip : Prop :=
  ∀ (s : State) (a b : Word) (n : Nat) (x : Nat → Sample),
    s.pu.pvalid = true → PUInstance s.cfg s.pu → s.pu.variant.isInteger = true → s.pu.column = 0 →
    b.toNat = a.toNat + n * s.pu.sampleSize.toNat → b.toNat ≤ s.cfg.bufSize.toNat →
    (∀ j < n, (x j).toNat < 2 ^ (8 * s.pu.sampleSize.toNat)) →
    (∀ j < n, (sampleAt s.pu s.buf a.toNat j).toNat = encodedAt s.pu x j) →
    ∃ t, exec (.preverse a b) s = .next t ∧ ∀ j < n, sampleAt s.pu t.buf a.toNat j = x j

/-! ### HREGION, HLINE -/

/-- `HREGION` inside `IN` sets the region, puts the cursor at its first bit, the colour at `WHITE`, clears `acc` and a
latched fault; outside `IN` it answers `RANGE` and changes nothing (spec 42_huffman R198). -/
def Obligations.HregionSetsTheRegion : Prop :=
  ∀ (s : State) (offset count : Word),
    (offset.toNat + count.toNat ≤ s.cfg.inSize.toNat →
      exec (.hregion offset count) s =
        .next { s with
          hu := { s.hu with rstart := offset, rcount := count, bitcur := 0, color := .white, acc := 0,
                            hfault := false, hvalid := true }
          rsp := some { st := .ok, aux := 0, r := 0 } }) ∧
    (s.cfg.inSize.toNat < offset.toNat + count.toNat →
      exec (.hregion offset count) s = .next { s with rsp := some { st := .range, aux := 0, r := 0 } })

/-- `HLINE` sets the colour to `WHITE` and `acc` to 0 and moves nothing else; without a region it answers `NOT_READY`,
with a latched fault that fault (spec 42_huffman R199). -/
def Obligations.HlineStartsACodedLine : Prop :=
  ∀ s : State,
    (s.hu.hvalid = true → s.hu.hfault = false →
      exec .hline s = .next { s with
        hu := { s.hu with color := .white, acc := 0 }, rsp := some { st := .ok, aux := 0, r := 0 } }) ∧
    (s.hu.hvalid = false →
      exec .hline s = .next { s with rsp := some { st := .notReady, aux := 0, r := 0 } }) ∧
    (s.hu.hvalid = true → s.hu.hfault = true →
      exec .hline s = .next { s with rsp := some { st := s.hu.hcause, aux := 0, r := s.hu.acc } })

/-! ### HNEXT and the code words -/

/-- The bits `ReadBit` has still to return are the bits of the region from the cursor on, each byte from its most
significant bit (spec 20_memory R72). -/
def Obligations.BitsAreReadMostSignificantFirst : Prop :=
  ∀ (s : State) (n : Nat),
    (s.hu.bitcur + n < 8 * s.hu.rcount.toNat →
      (unreadBits s)[n]? =
        some ((readByte .inp s.inp (s.hu.rstart.toNat + (s.hu.bitcur + n) / 8)).getLsbD
          (7 - (s.hu.bitcur + n) % 8))) ∧
    (8 * s.hu.rcount.toNat ≤ s.hu.bitcur + n → (unreadBits s)[n]? = none)

/-- `HNEXT` without a region answers `NOT_READY`; with a latched fault it answers that fault and `acc` again; neither
changes anything else, and `CUR` is the selector of the colour register's own table (spec 42_huffman R200, R201, R209). -/
def Obligations.HnextChecksBeforeAnyBit : Prop :=
  ∀ (s : State) (sel : Sel),
    (s.hu.hvalid = false →
      exec (.hnext sel) s = .next { s with rsp := some { st := .notReady, aux := 0, r := 0 } }) ∧
    (s.hu.hvalid = true → s.hu.hfault = true →
      exec (.hnext sel) s = .next { s with rsp := some { st := s.hu.hcause, aux := 0, r := s.hu.acc } }) ∧
    (s.hu.color = .white → exec (.hnext .cur) s = exec (.hnext .w) s) ∧
    (s.hu.color = .black → exec (.hnext .cur) s = exec (.hnext .b) s)

/-- When the unread bits begin with any makeup words and then a terminating word of the selected table, whatever follows,
`HNEXT` returns the sum of their run lengths, consumes exactly their bits, complements the colour and leaves `acc` at 0,
and changes nothing else (spec 42_huffman R202, R205, R206). -/
def Obligations.HnextReturnsTheCodedRun : Prop :=
  ∀ (s : State) (sel : Sel) (run : CodedRun) (rest : List Bool),
    s.cfg.wellFormed = true → s.hu.hvalid = true → s.hu.hfault = false →
    s.hu.rstart.toNat + s.hu.rcount.toNat ≤ s.cfg.inSize.toNat →
    run.Valid → unreadBits s = run.bits s.cfg.tables (selColor s.hu.color sel) ++ rest →
    exec (.hnext sel) s =
      .next { s with
        hu := { s.hu with acc := 0, color := Color.flip s.hu.color, walk := none,
                          bitcur := s.hu.bitcur + (run.bits s.cfg.tables (selColor s.hu.color sel)).length }
        rsp := some { st := .ok, aux := colorAux (Color.flip s.hu.color),
                      r := BitVec.ofNat 32 run.length } }

/-- When makeup words are followed by a bit string that leaves the table at its last bit, `HNEXT` faults `CORRUPT`: the bits up
to that one are consumed, `acc` and `r` are the sum of the makeup values, the colour stays, the fault is latched, and nothing
else changes (spec 42_huffman R204, R210). -/
def Obligations.HnextFaultsWhereNoWordIs : Prop :=
  ∀ (s : State) (sel : Sel) (makeups : List Nat) (q rest : List Bool),
    s.cfg.wellFormed = true → s.hu.hvalid = true → s.hu.hfault = false →
    s.hu.rstart.toNat + s.hu.rcount.toNat ≤ s.cfg.inSize.toNat →
    (∀ m ∈ makeups, IsMakeup m) → makeups.sum ≤ accMax →
    DeadEnd (codeTable s.cfg.tables (selColor s.hu.color sel)) q →
    unreadBits s = wordsBits s.cfg.tables (selColor s.hu.color sel) makeups ++ q ++ rest →
    exec (.hnext sel) s =
      .next { s with
        hu := { s.hu with hfault := true, hcause := .corrupt, acc := BitVec.ofNat 32 makeups.sum,
                          walk := none,
                          bitcur := s.hu.bitcur +
                            (wordsBits s.cfg.tables (selColor s.hu.color sel) makeups).length + q.length }
        rsp := some { st := .corrupt, aux := 0, r := BitVec.ofNat 32 makeups.sum } }

/-- With the default tables, when makeup words are followed by eight zero bits, `HNEXT` faults `CORRUPT`: the eight bits are
consumed, `acc` and `r` are the sum of the makeup values, the colour stays, the fault is latched
(spec 42_huffman R204, R210). The default tables are PRESUMED, log entry 9. -/
def Obligations.HnextFaultsOnEightZeros : Prop :=
  ∀ (s : State) (sel : Sel) (makeups : List Nat) (rest : List Bool),
    s.cfg.tables = .standard → s.hu.hvalid = true → s.hu.hfault = false →
    s.hu.rstart.toNat + s.hu.rcount.toNat ≤ s.cfg.inSize.toNat →
    (∀ m ∈ makeups, IsMakeup m) → makeups.sum ≤ accMax →
    unreadBits s = wordsBits .standard (selColor s.hu.color sel) makeups ++ List.replicate 8 false ++ rest →
    exec (.hnext sel) s =
      .next { s with
        hu := { s.hu with hfault := true, hcause := .corrupt, acc := BitVec.ofNat 32 makeups.sum,
                          walk := none,
                          bitcur := s.hu.bitcur +
                            (wordsBits .standard (selColor s.hu.color sel) makeups).length + 8 }
        rsp := some { st := .corrupt, aux := 0, r := BitVec.ofNat 32 makeups.sum } }

/-- When the region ends after makeup words, or inside the word that follows them, `HNEXT` faults `END_OF_INPUT`: all bits
are consumed, `acc` and `r` are the sum of the makeup values, the colour stays, the fault is latched
(spec 42_huffman R208, R210, 20_memory R73). -/
def Obligations.HnextFaultsAtTheEndOfTheRegion : Prop :=
  ∀ (s : State) (sel : Sel) (makeups : List Nat) (part : List Bool) (v : Nat),
    s.cfg.wellFormed = true → s.hu.hvalid = true → s.hu.hfault = false →
    s.hu.rstart.toNat + s.hu.rcount.toNat ≤ s.cfg.inSize.toNat →
    (∀ m ∈ makeups, IsMakeup m) → makeups.sum ≤ accMax →
    IsRun v → part <+: patternOf s.cfg.tables (selColor s.hu.color sel) v →
    part ≠ patternOf s.cfg.tables (selColor s.hu.color sel) v →
    unreadBits s = wordsBits s.cfg.tables (selColor s.hu.color sel) makeups ++ part →
    exec (.hnext sel) s =
      .next { s with
        hu := { s.hu with hfault := true, hcause := .endOfInput, acc := BitVec.ofNat 32 makeups.sum,
                          walk := none, bitcur := s.hu.bitcur + (unreadBits s).length }
        rsp := some { st := .endOfInput, aux := 0, r := BitVec.ofNat 32 makeups.sum } }

/-- A code word inside an `HNEXT` consumes the bits of its pattern and adds its run length to `acc`: a terminating word ends
the run, a makeup word goes on without a response, and a sum above 2^32 - 1 faults `OVERFLOW` with `acc` as it was
(spec 42_huffman R205, R206, R207). The step a code word is, is the model's reading of R202, log entry 4. -/
def Obligations.CodeWordConsumesItsBitsAndAdds : Prop :=
  ∀ (i : Instr) (c : Color) (v : Nat) (s : State),
    s.cfg.wellFormed = true → i.codeWord? = some (c, v) →
    (s.hu.acc.toNat + v ≤ accMax → v < 64 →
      exec i s = .next { s with
        hu := { s.hu with acc := 0, color := Color.flip s.hu.color, walk := none,
                          bitcur := s.hu.bitcur + (patternOf s.cfg.tables c v).length }
        rsp := some { st := .ok, aux := colorAux (Color.flip s.hu.color),
                      r := BitVec.ofNat 32 (s.hu.acc.toNat + v) } }) ∧
    (s.hu.acc.toNat + v ≤ accMax → 64 ≤ v →
      exec i s = .next { s with
        hu := { s.hu with acc := BitVec.ofNat 32 (s.hu.acc.toNat + v),
                          bitcur := s.hu.bitcur + (patternOf s.cfg.tables c v).length } }) ∧
    (accMax < s.hu.acc.toNat + v →
      exec i s = .next { s with
        hu := { s.hu with hfault := true, hcause := .overflow, walk := none,
                          bitcur := s.hu.bitcur + (patternOf s.cfg.tables c v).length }
        rsp := some { st := .overflow, aux := 0, r := s.hu.acc } })

/-- One `HNEXT` is the run of its code words: starting with `acc = 0` and the walk at the root of the selected trie, the
machine steps from word to word, inside the command until the last step, and ends in the state that executing the `HNEXT`
at once ends in, fault or not (spec 42_huffman R202, R203). The steps from word to word and the field `walk` are the model's
choice, log entry 4; this statement says that they agree with the command taken whole. -/
def Obligations.HnextIsTheRunOfItsCodeWords : Prop :=
  ∀ (s : State) (sel : Sel), s.cfg.wellFormed = true →
    s.hu.hvalid = true → s.hu.hfault = false → HUInv s.cfg s.hu → s.hu.walk = none →
    ∃ (n : Nat) (t : State), exec (.hnext sel) s = .next t ∧
      Host.Core.run Sys2Proof.core n
        { s with hu := { s.hu with acc := 0, walk := some (selColor s.hu.color sel) } } = .next t ∧
      ∀ m < n, ∃ u : State, Host.Core.run Sys2Proof.core m
        { s with hu := { s.hu with acc := 0, walk := some (selColor s.hu.color sel) } } = .next u ∧
        u.hu.walk = some (selColor s.hu.color sel)

/-- Consecutive `HNEXT` on the bits of consecutive coded runs return the run lengths in order, the colour alternating, with
either table throughout or with the table of the current colour, and consume exactly those bits
(spec 42_huffman R213, R215, R212). -/
def Obligations.ConsecutiveRunsDecodeInOrder : Prop :=
  ∀ (s : State) (sel : Sel) (runs : List CodedRun) (rest : List Bool),
    s.cfg.wellFormed = true → s.hu.hvalid = true → s.hu.hfault = false →
    s.hu.rstart.toNat + s.hu.rcount.toNat ≤ s.cfg.inSize.toNat →
    (∀ r ∈ runs, r.Valid) → unreadBits s = lineBits s.cfg.tables sel s.hu.color runs ++ rest →
    ∃ t, execAll (List.replicate runs.length (.hnext sel)) s = some (lineResponses s.hu.color runs, t) ∧
      t.hu.bitcur = s.hu.bitcur + (lineBits s.cfg.tables sel s.hu.color runs).length ∧ unreadBits t = rest

/-- A latched fault is repeated by every later `HNEXT` and `HLINE`, however many, with no effect on any register or memory
(spec 42_huffman R209). -/
def Obligations.LatchedFaultRepeatsUntilHregion : Prop :=
  ∀ (s : State) (cmds : List Instr),
    s.hu.hvalid = true → s.hu.hfault = true → cmds ≠ [] →
    (∀ i ∈ cmds, i = .hline ∨ ∃ sel, i = .hnext sel) →
    execAll cmds s =
      some (cmds.map (fun _ => some { st := s.hu.hcause, aux := 0, r := s.hu.acc }),
        { s with rsp := some { st := s.hu.hcause, aux := 0, r := s.hu.acc } })

/-! ### Whole-machine rules -/

/-- Every step keeps the invariant: the canonical form of the memories, the geometry of a valid instance, the PU at its reset
values without one, the input region inside `IN`, the cursor inside the region, `acc = 0` between commands; and it keeps the
parameters of the build, the code tables among them (spec 10_state R29, R30, R36, R39, 40_resolver R148, 00_scope R9). The
reset values that R47 leaves open and the form of memories and carry buffer are the model's choice, log entries 2, 5 and 6. -/
def Obligations.EveryStepKeepsTheInvariant : Prop :=
  ∀ s t : State, Inv s → step s = .next t → Inv t ∧ t.cfg = s.cfg

/-- Every instruction answers: from a state of the invariant no instruction stops the machine, whatever its operands and the
contents of the memories (spec 00_scope R15, 70_reset R278). -/
def Obligations.EveryInstructionAnswers : Prop :=
  ∀ (i : Instr) (s : State), Inv s → ∃ t, exec i s = .next t

/-- A host that keeps its duties is never stopped: from a state of the invariant, a step takes a next state inside an `HNEXT`,
on an empty inbox, on a reset, on any touch of existing bytes between commands, and on any command word, legal or not, during
which the host at most touches existing bytes that do not meet what the command keeps for itself (spec 00_scope R15,
60_exceptions R230, 70_reset R276). Among those touches are writes of the current input region outside an `HNEXT`, which R276
forbids and 20_memory R79 allows; that they do not stop the machine either is the model's choice, log entry 10. -/
def Obligations.StepNeverStopsADutifulHost : Prop :=
  ∀ s : State, Inv s →
    (s.hu.walk ≠ none ∨ s.inbox = [] ∨ (∃ rest, s.inbox = .reset :: rest) ∨
      (∃ t rest, s.inbox = .touch t :: rest ∧ TouchExists s.cfg t) ∨
      ∃ (w : CmdWord) (ts : List HostTouch) (rest : List HostEvent),
        s.inbox = .command w (ts.map .touch) :: rest ∧
        ∀ t ∈ ts, TouchExists s.cfg t ∧ ∀ i, decodeCommand w = .ok i → ¬ TouchMeets s.hu i t) →
    ∃ t, step s = .next t

/-- The units are independent: no command of the PU or the TR writes or reads a register of the HU or `IN`, and no command of
the HU and no code word writes or reads a register of the PU or `BUF` (spec 00_scope R3, 20_memory R60). -/
def Obligations.UnitsAreIndependent : Prop :=
  (∀ (i : Instr) (s t : State) (hu' : HU) (inp' : List Host.Cell),
    ((∃ k n, i = .resolve k n) ∨ (∃ k n o p w, i = .pcreate k n o p w) ∨ ∃ a b, i = .preverse a b) →
    exec i s = .next t →
    t.hu = s.hu ∧ t.inp = s.inp ∧
    exec i { s with hu := hu', inp := inp' } = .next { t with hu := hu', inp := inp' }) ∧
  (∀ (i : Instr) (s t : State) (pu' : PU) (buf' : List Host.Cell),
    ((∃ o c, i = .hregion o c) ∨ i = .hline ∨ (∃ sel, i = .hnext sel) ∨ i.codeWord? ≠ none) →
    exec i s = .next t →
    t.pu = s.pu ∧ t.buf = s.buf ∧
    exec i { s with pu := pu', buf := buf' } = .next { t with pu := pu', buf := buf' })

/-- No command reads a register that is unspecified in its state: states that differ only in such registers give the same
response and states that again differ only in such registers (spec 10_state R48). -/
def Obligations.UnspecifiedRegistersAreNotRead : Prop :=
  ∀ (i : Instr) (s s' : State), forgetUnspecified s = forgetUnspecified s' →
    mapNext forgetUnspecified (exec i s) = mapNext forgetUnspecified (exec i s')

/-- No instruction writes `IN` or changes the parameters of the build or what the host is about to do, and only `PREVERSE`
writes `BUF` (spec 20_memory R60, R62, 10_state R46). -/
def Obligations.OnlyPreverseWritesMemory : Prop :=
  ∀ (i : Instr) (s t : State), exec i s = .next t →
    t.inp = s.inp ∧ t.cfg = s.cfg ∧ t.inbox = s.inbox ∧
    ((∀ a b, i ≠ .preverse a b) → t.buf = s.buf)

/-- Geometry and sample type are fixed by `PCREATE`: no other instruction writes them, and only `PCREATE` and `PREVERSE`
write `column` and the carry buffer (spec 10_state R33). -/
def Obligations.OnlyPcreateSetsTheGeometry : Prop :=
  ∀ (i : Instr) (s t : State), exec i s = .next t → (∀ k n o p w, i ≠ .pcreate k n o p w) →
    t.pu.pvalid = s.pu.pvalid ∧ t.pu.variant = s.pu.variant ∧ t.pu.sgn = s.pu.sgn ∧
    t.pu.sampleSize = s.pu.sampleSize ∧ t.pu.byteOrder = s.pu.byteOrder ∧
    t.pu.samplesPerPixel = s.pu.samplesPerPixel ∧ t.pu.pixelWidth = s.pu.pixelWidth ∧
    t.pu.pixelStride = s.pu.pixelStride ∧ t.pu.scanlineStride = s.pu.scanlineStride ∧
    ((∀ a b, i ≠ .preverse a b) → t.pu.column = s.pu.column ∧ t.pu.saved = s.pu.saved)

/-- The latch of the HU: a command sets `hfault` only as an `HNEXT` that answers `CORRUPT`, `END_OF_INPUT` or `OVERFLOW`, with
that code in `hcause`; and only an `HREGION` clears it (spec 10_state R37). -/
def Obligations.OnlyHnextLatchesAndOnlyHregionClears : Prop :=
  ∀ (i : Instr) (s t : State), i.codeWord? = none → exec i s = .next t →
    (s.hu.hfault = false → t.hu.hfault = true →
      (∃ sel, i = .hnext sel) ∧
      (t.hu.hcause = .corrupt ∨ t.hu.hcause = .endOfInput ∨ t.hu.hcause = .overflow) ∧
      ∃ p, t.rsp = some p ∧ p.st = t.hu.hcause ∧ p.r = t.hu.acc) ∧
    (s.hu.hfault = true → t.hu.hfault = false → ∃ offset count, i = .hregion offset count)

/-- The colour register: complemented by an `HNEXT` that answers `OK`, unchanged by one that faults, `WHITE` after an `HLINE` or
`HREGION` that answers `OK`, and written by no other command (spec 10_state R35). -/
def Obligations.ColorFlipsExactlyOnSuccess : Prop :=
  ∀ (i : Instr) (s t : State) (p : Response), HUInv s.cfg s.hu → i.codeWord? = none →
    exec i s = .next t → t.rsp = some p →
    ((∃ sel, i = .hnext sel) →
      (p.st = .ok → t.hu.color = Color.flip s.hu.color) ∧ (p.st ≠ .ok → t.hu.color = s.hu.color)) ∧
    ((i = .hline ∨ ∃ o c, i = .hregion o c) →
      (p.st = .ok → t.hu.color = .white) ∧ (p.st ≠ .ok → t.hu.color = s.hu.color)) ∧
    ((∀ sel, i ≠ .hnext sel) → i ≠ .hline → (∀ o c, i ≠ .hregion o c) → t.hu.color = s.hu.color)

/-- The response word holds the status code in bits 47 to 40, `aux` in bits 39 to 32 and `r` in bits 31 to 0; the codes are 0
to 8 as listed, and no other is produced (spec 30_encoding R95, R96). -/
def Obligations.ResponseWordLayout : Prop :=
  (∀ (aux : BitVec 8) (r : Word),
    ∀ row ∈ ([(.ok, 0), (.unsupported, 1), (.geometry, 2), (.corrupt, 3), (.endOfInput, 4), (.overflow, 5),
        (.range, 6), (.notReady, 7), (.illegalCommand, 8)] : List (Status × Nat)),
      (Response.word { st := row.1, aux := aux, r := r }).toNat = row.2 * 2 ^ 40 + aux.toNat * 2 ^ 32 + r.toNat) ∧
  ∀ p : Response,
    (p.word.extractLsb' 40 8).toNat ≤ 8 ∧ p.word.extractLsb' 32 8 = p.aux ∧ p.word.extractLsb' 0 32 = p.r

/-- A response with a fault carries the code alone, but that `HNEXT` and `HLINE` may carry `acc` in `r`; every command gives a
response (spec 30_encoding R95, 60_exceptions R230). -/
def Obligations.FaultResponsesCarryOnlyTheCode : Prop :=
  ∀ (i : Instr) (s t : State), i.codeWord? = none → exec i s = .next t →
    ∃ p, t.rsp = some p ∧
      (p.st ≠ .ok → p.aux = 0 ∧ (p.r = 0 ∨ ((i = .hline ∨ ∃ sel, i = .hnext sel) ∧ p.r = t.hu.acc)))
end

