-- ==== Sys2Proof/Laws/Decode.lean ====
section
/-! SUPPORT. The fields of a command word are the ones it was made of, and the small codes read back. -/

namespace Sys2Proof
open Sys2Proof.Machine

/-- The bits of a word made of fields (spec 30_encoding R90). -/
theorem getLsbD_wordOf (r : RawCommand) (i : Nat) :
    (wordOf r).getLsbD i =
      if i < 32 then r.b.getLsbD i
      else if i < 64 then r.a.getLsbD (i - 32)
      else if i < 80 then r.n.getLsbD (i - 64)
      else if i < 88 then r.f.getLsbD (i - 80)
      else r.op.getLsbD (i - 88) := by
  change BitVec.getLsbD (r.op ++ r.f ++ r.n ++ r.a ++ r.b : BitVec (8 + 8 + 16 + 32 + 32)) i = _
  simp only [BitVec.getLsbD_append, Nat.sub_sub]
  repeat' split
  all_goals first | rfl | omega

/-- The fields of a word made of fields are those fields (spec 30_encoding R90). -/
@[simp] theorem fieldsOf_wordOf (r : RawCommand) : fieldsOf (wordOf r) = r := by
  obtain ⟨op, f, n, a, b⟩ := r
  simp only [fieldsOf, RawCommand.mk.injEq]
  refine ⟨?_, ?_, ?_, ?_, ?_⟩ <;>
  · apply BitVec.eq_of_getLsbD_eq
    intro i hi
    simp only [BitVec.getLsbD_extractLsb', hi, getLsbD_wordOf, decide_true, Bool.true_and]
    repeat' split
    all_goals first | omega | (congr 1; omega)

/-- A word is made of its fields (spec 30_encoding R90). -/
@[simp] theorem wordOf_fieldsOf (w : CmdWord) : wordOf (fieldsOf w) = w := by
  apply BitVec.eq_of_getLsbD_eq
  intro i hi
  rw [getLsbD_wordOf]
  simp only [fieldsOf, BitVec.getLsbD_extractLsb']
  repeat' split
  all_goals
    rw [decide_eq_true (by omega), Bool.true_and]
    congr 1
    omega

@[simp] theorem kindOf_code (k : Kind) : kindOf k.code = some k := by cases k <;> rfl

@[simp] theorem selOf_code (k : Sel) : selOf k.code = some k := by cases k <;> rfl

@[simp] theorem orderOf_code (o : ByteOrder) : orderOf o.code = o := by cases o <;> rfl

/-! ### The fields of each command, and that a command is no code word -/

@[simp] theorem commandFields_resolve (k : Kind) (bits : BitVec 16) :
    commandFields (.resolve k bits) = ⟨0x01, (0 : BitVec 6) ++ k.code, bits, 0, 0⟩ := rfl

@[simp] theorem commandFields_pcreate (k : Kind) (bits : BitVec 16) (o : ByteOrder) (spp width : Word) :
    commandFields (.pcreate k bits o spp width) =
      ⟨0x02, (0 : BitVec 5) ++ o.code ++ k.code, bits, spp, width⟩ := rfl

@[simp] theorem commandFields_preverse (start stop : Word) :
    commandFields (.preverse start stop) = ⟨0x03, 0, 0, start, stop⟩ := rfl

@[simp] theorem commandFields_hregion (offset count : Word) :
    commandFields (.hregion offset count) = ⟨0x10, 0, 0, offset, count⟩ := rfl

@[simp] theorem commandFields_hline : commandFields .hline = ⟨0x11, 0, 0, 0, 0⟩ := rfl

@[simp] theorem commandFields_hnext (sel : Sel) :
    commandFields (.hnext sel) = ⟨0x12, (0 : BitVec 6) ++ sel.code, 0, 0, 0⟩ := rfl

@[simp] theorem codeWord?_resolve (k : Kind) (bits : BitVec 16) :
    (Instr.resolve k bits).codeWord? = none := rfl

@[simp] theorem codeWord?_pcreate (k : Kind) (bits : BitVec 16) (o : ByteOrder) (spp width : Word) :
    (Instr.pcreate k bits o spp width).codeWord? = none := rfl

@[simp] theorem codeWord?_preverse (start stop : Word) : (Instr.preverse start stop).codeWord? = none := rfl

@[simp] theorem codeWord?_hregion (offset count : Word) : (Instr.hregion offset count).codeWord? = none := rfl

@[simp] theorem codeWord?_hline : Instr.hline.codeWord? = none := rfl

@[simp] theorem codeWord?_hnext (sel : Sel) : (Instr.hnext sel).codeWord? = none := rfl

end Sys2Proof
end

