-- ==== Sys2Proof/Laws/State.lean ====
section
/-! SUPPORT. One lemma per field and update of the state, each true by `rfl`; later proofs cite these and unfold no record
update. -/

namespace Sys2Proof.Machine
open Sys2Proof

/-! ### `respond` -/

@[simp] theorem respond_pu (st : Status) (aux : BitVec 8) (r : Word) (s : State) : (respond st aux r s).pu = s.pu := rfl
@[simp] theorem respond_hu (st : Status) (aux : BitVec 8) (r : Word) (s : State) : (respond st aux r s).hu = s.hu := rfl
@[simp] theorem respond_buf (st : Status) (aux : BitVec 8) (r : Word) (s : State) : (respond st aux r s).buf = s.buf := rfl
@[simp] theorem respond_inp (st : Status) (aux : BitVec 8) (r : Word) (s : State) : (respond st aux r s).inp = s.inp := rfl
@[simp] theorem respond_cfg (st : Status) (aux : BitVec 8) (r : Word) (s : State) : (respond st aux r s).cfg = s.cfg := rfl
@[simp] theorem respond_rsp (st : Status) (aux : BitVec 8) (r : Word) (s : State) : (respond st aux r s).rsp = some ⟨st, aux, r⟩ := rfl
@[simp] theorem respond_inbox (st : Status) (aux : BitVec 8) (r : Word) (s : State) : (respond st aux r s).inbox = s.inbox := rfl

/-! ### `advanceBits` -/

@[simp] theorem advanceBits_pu (used : Nat) (s : State) : (advanceBits used s).pu = s.pu := rfl
@[simp] theorem advanceBits_buf (used : Nat) (s : State) : (advanceBits used s).buf = s.buf := rfl
@[simp] theorem advanceBits_inp (used : Nat) (s : State) : (advanceBits used s).inp = s.inp := rfl
@[simp] theorem advanceBits_cfg (used : Nat) (s : State) : (advanceBits used s).cfg = s.cfg := rfl
@[simp] theorem advanceBits_rsp (used : Nat) (s : State) : (advanceBits used s).rsp = s.rsp := rfl
@[simp] theorem advanceBits_inbox (used : Nat) (s : State) : (advanceBits used s).inbox = s.inbox := rfl

/-! ### `advanceBits` -/

@[simp] theorem advanceBits_hu_hvalid (used : Nat) (s : State) : (advanceBits used s).hu.hvalid = s.hu.hvalid := rfl
@[simp] theorem advanceBits_hu_color (used : Nat) (s : State) : (advanceBits used s).hu.color = s.hu.color := rfl
@[simp] theorem advanceBits_hu_acc (used : Nat) (s : State) : (advanceBits used s).hu.acc = s.hu.acc := rfl
@[simp] theorem advanceBits_hu_hfault (used : Nat) (s : State) : (advanceBits used s).hu.hfault = s.hu.hfault := rfl
@[simp] theorem advanceBits_hu_hcause (used : Nat) (s : State) : (advanceBits used s).hu.hcause = s.hu.hcause := rfl
@[simp] theorem advanceBits_hu_rstart (used : Nat) (s : State) : (advanceBits used s).hu.rstart = s.hu.rstart := rfl
@[simp] theorem advanceBits_hu_rcount (used : Nat) (s : State) : (advanceBits used s).hu.rcount = s.hu.rcount := rfl
@[simp] theorem advanceBits_hu_bitcur (used : Nat) (s : State) : (advanceBits used s).hu.bitcur = s.hu.bitcur + used := rfl
@[simp] theorem advanceBits_hu_walk (used : Nat) (s : State) : (advanceBits used s).hu.walk = s.hu.walk := rfl

/-! ### `huFail` -/

@[simp] theorem huFail_pu (st : Status) (acc : Nat) (s : State) : (huFail st acc s).pu = s.pu := rfl
@[simp] theorem huFail_buf (st : Status) (acc : Nat) (s : State) : (huFail st acc s).buf = s.buf := rfl
@[simp] theorem huFail_inp (st : Status) (acc : Nat) (s : State) : (huFail st acc s).inp = s.inp := rfl
@[simp] theorem huFail_cfg (st : Status) (acc : Nat) (s : State) : (huFail st acc s).cfg = s.cfg := rfl
@[simp] theorem huFail_rsp (st : Status) (acc : Nat) (s : State) : (huFail st acc s).rsp = some ⟨st, 0, BitVec.ofNat 32 acc⟩ := rfl
@[simp] theorem huFail_inbox (st : Status) (acc : Nat) (s : State) : (huFail st acc s).inbox = s.inbox := rfl

/-! ### `huFail` -/

@[simp] theorem huFail_hu_hvalid (st : Status) (acc : Nat) (s : State) : (huFail st acc s).hu.hvalid = s.hu.hvalid := rfl
@[simp] theorem huFail_hu_color (st : Status) (acc : Nat) (s : State) : (huFail st acc s).hu.color = s.hu.color := rfl
@[simp] theorem huFail_hu_acc (st : Status) (acc : Nat) (s : State) : (huFail st acc s).hu.acc = BitVec.ofNat 32 acc := rfl
@[simp] theorem huFail_hu_hfault (st : Status) (acc : Nat) (s : State) : (huFail st acc s).hu.hfault = true := rfl
@[simp] theorem huFail_hu_hcause (st : Status) (acc : Nat) (s : State) : (huFail st acc s).hu.hcause = st := rfl
@[simp] theorem huFail_hu_rstart (st : Status) (acc : Nat) (s : State) : (huFail st acc s).hu.rstart = s.hu.rstart := rfl
@[simp] theorem huFail_hu_rcount (st : Status) (acc : Nat) (s : State) : (huFail st acc s).hu.rcount = s.hu.rcount := rfl
@[simp] theorem huFail_hu_bitcur (st : Status) (acc : Nat) (s : State) : (huFail st acc s).hu.bitcur = s.hu.bitcur := rfl
@[simp] theorem huFail_hu_walk (st : Status) (acc : Nat) (s : State) : (huFail st acc s).hu.walk = none := rfl

/-! ### `huFinish` -/

@[simp] theorem huFinish_pu (run : Nat) (s : State) : (huFinish run s).pu = s.pu := rfl
@[simp] theorem huFinish_buf (run : Nat) (s : State) : (huFinish run s).buf = s.buf := rfl
@[simp] theorem huFinish_inp (run : Nat) (s : State) : (huFinish run s).inp = s.inp := rfl
@[simp] theorem huFinish_cfg (run : Nat) (s : State) : (huFinish run s).cfg = s.cfg := rfl
@[simp] theorem huFinish_rsp (run : Nat) (s : State) : (huFinish run s).rsp = some ⟨.ok, colorAux (Color.flip s.hu.color), BitVec.ofNat 32 run⟩ := rfl
@[simp] theorem huFinish_inbox (run : Nat) (s : State) : (huFinish run s).inbox = s.inbox := rfl

/-! ### `huFinish` -/

@[simp] theorem huFinish_hu_hvalid (run : Nat) (s : State) : (huFinish run s).hu.hvalid = s.hu.hvalid := rfl
@[simp] theorem huFinish_hu_color (run : Nat) (s : State) : (huFinish run s).hu.color = Color.flip s.hu.color := rfl
@[simp] theorem huFinish_hu_acc (run : Nat) (s : State) : (huFinish run s).hu.acc = 0 := rfl
@[simp] theorem huFinish_hu_hfault (run : Nat) (s : State) : (huFinish run s).hu.hfault = s.hu.hfault := rfl
@[simp] theorem huFinish_hu_hcause (run : Nat) (s : State) : (huFinish run s).hu.hcause = s.hu.hcause := rfl
@[simp] theorem huFinish_hu_rstart (run : Nat) (s : State) : (huFinish run s).hu.rstart = s.hu.rstart := rfl
@[simp] theorem huFinish_hu_rcount (run : Nat) (s : State) : (huFinish run s).hu.rcount = s.hu.rcount := rfl
@[simp] theorem huFinish_hu_bitcur (run : Nat) (s : State) : (huFinish run s).hu.bitcur = s.hu.bitcur := rfl
@[simp] theorem huFinish_hu_walk (run : Nat) (s : State) : (huFinish run s).hu.walk = none := rfl

/-! ### `hostReset` -/

@[simp] theorem hostReset_pu (s : State) : (hostReset s).pu = PU.reset := rfl
@[simp] theorem hostReset_hu (s : State) : (hostReset s).hu = HU.reset := rfl
@[simp] theorem hostReset_buf (s : State) : (hostReset s).buf = s.buf := rfl
@[simp] theorem hostReset_inp (s : State) : (hostReset s).inp = s.inp := rfl
@[simp] theorem hostReset_cfg (s : State) : (hostReset s).cfg = s.cfg := rfl
@[simp] theorem hostReset_rsp (s : State) : (hostReset s).rsp = none := rfl
@[simp] theorem hostReset_inbox (s : State) : (hostReset s).inbox = s.inbox := rfl

/-! ### `placeCommand` -/

@[simp] theorem placeCommand_pu (w : CmdWord) (s : State) : (placeCommand w s).pu = s.pu := rfl
@[simp] theorem placeCommand_buf (w : CmdWord) (s : State) : (placeCommand w s).buf = s.buf := rfl
@[simp] theorem placeCommand_inp (w : CmdWord) (s : State) : (placeCommand w s).inp = s.inp := rfl
@[simp] theorem placeCommand_cfg (w : CmdWord) (s : State) : (placeCommand w s).cfg = s.cfg := rfl
@[simp] theorem placeCommand_rsp (w : CmdWord) (s : State) : (placeCommand w s).rsp = s.rsp := rfl
@[simp] theorem placeCommand_inbox (w : CmdWord) (s : State) : (placeCommand w s).inbox = .command w [] :: s.inbox := rfl

/-! ### `placeCommand` -/

@[simp] theorem placeCommand_hu_hvalid (w : CmdWord) (s : State) : (placeCommand w s).hu.hvalid = s.hu.hvalid := rfl
@[simp] theorem placeCommand_hu_color (w : CmdWord) (s : State) : (placeCommand w s).hu.color = s.hu.color := rfl
@[simp] theorem placeCommand_hu_acc (w : CmdWord) (s : State) : (placeCommand w s).hu.acc = s.hu.acc := rfl
@[simp] theorem placeCommand_hu_hfault (w : CmdWord) (s : State) : (placeCommand w s).hu.hfault = s.hu.hfault := rfl
@[simp] theorem placeCommand_hu_hcause (w : CmdWord) (s : State) : (placeCommand w s).hu.hcause = s.hu.hcause := rfl
@[simp] theorem placeCommand_hu_rstart (w : CmdWord) (s : State) : (placeCommand w s).hu.rstart = s.hu.rstart := rfl
@[simp] theorem placeCommand_hu_rcount (w : CmdWord) (s : State) : (placeCommand w s).hu.rcount = s.hu.rcount := rfl
@[simp] theorem placeCommand_hu_bitcur (w : CmdWord) (s : State) : (placeCommand w s).hu.bitcur = s.hu.bitcur := rfl
@[simp] theorem placeCommand_hu_walk (w : CmdWord) (s : State) : (placeCommand w s).hu.walk = none := rfl

/-! ### `placeCode` -/

@[simp] theorem placeCode_pu (c : Color) (bits : List Bool) (s : State) : (placeCode c bits s).pu = s.pu := rfl
@[simp] theorem placeCode_buf (c : Color) (bits : List Bool) (s : State) : (placeCode c bits s).buf = s.buf := rfl
@[simp] theorem placeCode_cfg (c : Color) (bits : List Bool) (s : State) : (placeCode c bits s).cfg = s.cfg := rfl
@[simp] theorem placeCode_rsp (c : Color) (bits : List Bool) (s : State) : (placeCode c bits s).rsp = s.rsp := rfl
@[simp] theorem placeCode_inbox (c : Color) (bits : List Bool) (s : State) : (placeCode c bits s).inbox = s.inbox := rfl

/-! ### `placeCode` -/

@[simp] theorem placeCode_hu_hvalid (c : Color) (bits : List Bool) (s : State) : (placeCode c bits s).hu.hvalid = true := rfl
@[simp] theorem placeCode_hu_color (c : Color) (bits : List Bool) (s : State) : (placeCode c bits s).hu.color = s.hu.color := rfl
@[simp] theorem placeCode_hu_acc (c : Color) (bits : List Bool) (s : State) : (placeCode c bits s).hu.acc = s.hu.acc := rfl
@[simp] theorem placeCode_hu_hfault (c : Color) (bits : List Bool) (s : State) : (placeCode c bits s).hu.hfault = false := rfl
@[simp] theorem placeCode_hu_hcause (c : Color) (bits : List Bool) (s : State) : (placeCode c bits s).hu.hcause = s.hu.hcause := rfl
@[simp] theorem placeCode_hu_rstart (c : Color) (bits : List Bool) (s : State) : (placeCode c bits s).hu.rstart = 0 := rfl
@[simp] theorem placeCode_hu_rcount (c : Color) (bits : List Bool) (s : State) : (placeCode c bits s).hu.rcount = 2 := rfl
@[simp] theorem placeCode_hu_bitcur (c : Color) (bits : List Bool) (s : State) : (placeCode c bits s).hu.bitcur = 0 := rfl
@[simp] theorem placeCode_hu_walk (c : Color) (bits : List Bool) (s : State) : (placeCode c bits s).hu.walk = some c := rfl

/-! ### `resetOf` -/

@[simp] theorem resetOf_pu (p : Params) : (State.resetOf p).pu = PU.reset := rfl
@[simp] theorem resetOf_hu (p : Params) : (State.resetOf p).hu = HU.reset := rfl
@[simp] theorem resetOf_buf (p : Params) : (State.resetOf p).buf = [] := rfl
@[simp] theorem resetOf_inp (p : Params) : (State.resetOf p).inp = [] := rfl
@[simp] theorem resetOf_cfg (p : Params) : (State.resetOf p).cfg = p := rfl
@[simp] theorem resetOf_rsp (p : Params) : (State.resetOf p).rsp = none := rfl
@[simp] theorem resetOf_inbox (p : Params) : (State.resetOf p).inbox = [] := rfl

/-! ### `newInstance` -/

@[simp] theorem newInstance_pvalid (t : Resolved) (o : ByteOrder) (spp w : Word) : (newInstance t o spp w).pvalid = true := rfl
@[simp] theorem newInstance_variant (t : Resolved) (o : ByteOrder) (spp w : Word) : (newInstance t o spp w).variant = t.variant := rfl
@[simp] theorem newInstance_sgn (t : Resolved) (o : ByteOrder) (spp w : Word) : (newInstance t o spp w).sgn = t.isSigned := rfl
@[simp] theorem newInstance_sampleSize (t : Resolved) (o : ByteOrder) (spp w : Word) : (newInstance t o spp w).sampleSize = t.size := rfl
@[simp] theorem newInstance_byteOrder (t : Resolved) (o : ByteOrder) (spp w : Word) : (newInstance t o spp w).byteOrder = o := rfl
@[simp] theorem newInstance_samplesPerPixel (t : Resolved) (o : ByteOrder) (spp w : Word) : (newInstance t o spp w).samplesPerPixel = spp := rfl
@[simp] theorem newInstance_pixelWidth (t : Resolved) (o : ByteOrder) (spp w : Word) : (newInstance t o spp w).pixelWidth = w := rfl
@[simp] theorem newInstance_pixelStride (t : Resolved) (o : ByteOrder) (spp w : Word) : (newInstance t o spp w).pixelStride = BitVec.ofNat 32 (spp.toNat * t.size.toNat) := rfl
@[simp] theorem newInstance_scanlineStride (t : Resolved) (o : ByteOrder) (spp w : Word) : (newInstance t o spp w).scanlineStride = BitVec.ofNat 32 (w.toNat * (spp.toNat * t.size.toNat)) := rfl
@[simp] theorem newInstance_column (t : Resolved) (o : ByteOrder) (spp w : Word) : (newInstance t o spp w).column = 0 := rfl
@[simp] theorem newInstance_saved (t : Resolved) (o : ByteOrder) (spp w : Word) : (newInstance t o spp w).saved = List.replicate spp.toNat 0 := rfl

/-! ### `touchState` -/

@[simp] theorem touchState_pu (s : State) (t : HostTouch) : (touchState s t).pu = s.pu := by cases t <;> rfl
@[simp] theorem touchState_hu (s : State) (t : HostTouch) : (touchState s t).hu = s.hu := by cases t <;> rfl
@[simp] theorem touchState_cfg (s : State) (t : HostTouch) : (touchState s t).cfg = s.cfg := by cases t <;> rfl
@[simp] theorem touchState_rsp (s : State) (t : HostTouch) : (touchState s t).rsp = s.rsp := by cases t <;> rfl
@[simp] theorem touchState_inbox (s : State) (t : HostTouch) : (touchState s t).inbox = s.inbox := by cases t <;> rfl

/-! ### Answers -/

theorem answer_eq (aux : BitVec 8) (r : Word) (s : State) : answer aux r s = .next (respond .ok aux r s) := rfl

theorem raise_eq (st : Status) (s : State) : raise st s = .next (respond st 0 0 s) := rfl

theorem raiseSticky_eq (s : State) : raiseSticky s = .next (respond s.hu.hcause 0 s.hu.acc s) := rfl

/-- A touch answers a next state exactly when its bytes exist, and then that of `touchState`. -/
theorem applyTouch_next {t : HostTouch} {s s' : State} :
    applyTouch t s = .next s' ↔ touchFault? s.cfg t = none ∧ s' = touchState s t := by
  unfold applyTouch
  cases h : touchFault? s.cfg t with
  | none => simp [eq_comm]
  | some f => simp

@[simp] theorem Color.flip_flip (c : Color) : Color.flip (Color.flip c) = c := by cases c <;> rfl

end Sys2Proof.Machine
end

