-- ==== Sys2Proof/Laws/Huffman.lean ====
section
/-! SUPPORT. The Huffman unit: `decodeRun` in the shape of spec 42_huffman R202, the bits still to be read, what `runWord` can do. -/

namespace Sys2Proof.Machine
open Sys2Proof

/-- A walk that ends in a leaf has read at least one bit. -/
theorem walkFrom_leaf_used {t : List RomEntry} {node used v u : Nat} {bits : List Bool}
    (h : walkFrom t node used bits = .leaf v u) : used + 1 ≤ u := by
  induction bits generalizing node used with
  | nil => simp [walkFrom] at h
  | cons b rest ih =>
    rw [walkFrom] at h
    cases hl : lookupStep t node b with
    | absent => simp [hl] at h
    | leaf v' => simp [hl] at h; omega
    | node j => simp only [hl] at h; have := ih h; omega

/-- The loop of spec 42_huffman R202: one walk, then the word's value, then the loop again. -/
theorem decodeRun_eq_walkFrom (t : List RomEntry) (node acc used : Nat) (bits : List Bool) :
    decodeRun t node acc used bits =
      match walkFrom t node used bits with
      | .endOfInput u => .failed .endOfInput acc u
      | .noPath u => .failed .corrupt acc u
      | .leaf v u =>
        if acc + v > accMax then .failed .overflow acc u
        else if v < 64 then .done (acc + v) u
        else decodeRun t 0 (acc + v) u (bits.drop (u - used)) := by
  induction bits generalizing node used with
  | nil => rfl
  | cons b rest ih =>
    rw [decodeRun, walkFrom]
    cases h : lookupStep t node b with
    | absent => rfl
    | leaf v => simp only [show used + 1 - used = 1 by omega, List.drop_one, List.tail_cons]
    | node j =>
      simp only [ih]
      cases hw : walkFrom t j (used + 1) rest with
      | endOfInput u => rfl
      | noPath u => rfl
      | leaf v u =>
        have hu := walkFrom_leaf_used hw
        have hd : u - used = (u - (used + 1)) + 1 := by omega
        simp only [hd, List.drop_succ_cons]

/-- The loop of spec 42_huffman R202 from the root. -/
theorem decodeRun_eq_walk (t : List RomEntry) (acc : Nat) (bits : List Bool) :
    decodeRun t 0 acc 0 bits =
      match walk t bits with
      | .endOfInput u => .failed .endOfInput acc u
      | .noPath u => .failed .corrupt acc u
      | .leaf v u =>
        if acc + v > accMax then .failed .overflow acc u
        else if v < 64 then .done (acc + v) u
        else decodeRun t 0 (acc + v) u (bits.drop u) :=
  decodeRun_eq_walkFrom t 0 acc 0 bits

@[simp] theorem bitsFrom_length (m : List Host.Cell) (rstart n count : Nat) :
    (bitsFrom m rstart n count).length = count := by
  induction count generalizing n with
  | zero => rfl
  | succ c ih => simp [bitsFrom, ih]

@[simp] theorem unreadBits_length (s : State) :
    (unreadBits s).length = 8 * s.hu.rcount.toNat - s.hu.bitcur := by simp [unreadBits]

/-- Bits read are no longer to be read. -/
theorem bitsFrom_drop (m : List Host.Cell) (rstart n count k : Nat) :
    (bitsFrom m rstart n count).drop k = bitsFrom m rstart (n + k) (count - k) := by
  induction k generalizing n count with
  | zero => simp
  | succ k ih =>
    cases count with
    | zero => simp [bitsFrom]
    | succ c => simp [bitsFrom, ih, Nat.add_assoc, Nat.add_comm 1 k]

/-- After `used` bits the unread bits are those after them. -/
theorem unreadBits_advanceBits (used : Nat) (s : State) :
    unreadBits (advanceBits used s) = (unreadBits s).drop used := by
  simp [unreadBits, bitsFrom_drop, Nat.sub_sub]

/-- Everything the body of the loop can do (spec 42_huffman R205 to R207). -/
theorem addRun_cases (run len : Nat) (s : State) :
    (s.hu.acc.toNat + run > accMax ∧
      addRun run len s = huFail .overflow s.hu.acc.toNat (advanceBits len s)) ∨
    (s.hu.acc.toNat + run ≤ accMax ∧ run < 64 ∧
      addRun run len s = huFinish (s.hu.acc.toNat + run) (advanceBits len s)) ∨
    (s.hu.acc.toNat + run ≤ accMax ∧ 64 ≤ run ∧
      addRun run len s = { s with hu := { s.hu with
        bitcur := s.hu.bitcur + len, acc := BitVec.ofNat 32 (s.hu.acc.toNat + run) } }) := by
  unfold addRun
  by_cases h1 : s.hu.acc.toNat + run > accMax
  · exact .inl ⟨h1, by simp [h1]⟩
  · by_cases h2 : run < 64
    · exact .inr (.inl ⟨by omega, h2, by simp [h1, h2]⟩)
    · exact .inr (.inr ⟨by omega, by omega, by simp [h1, h2, advanceBits]⟩)

/-- Everything a code word can do. -/
theorem runWord_cases (c : Color) (run : Nat) (s : State) :
    (codeRow? s.cfg.tables c run = none ∧ runWord c run s = .refused .noHardware) ∨
    (∃ row, codeRow? s.cfg.tables c run = some row ∧ runWord c run s = .next (addRun run row.len s)) := by
  unfold runWord
  cases h : codeRow? s.cfg.tables c run with
  | none => exact .inl ⟨rfl, rfl⟩
  | some row => exact .inr ⟨row, rfl, rfl⟩

end Sys2Proof.Machine
end

