-- ==== Sys2Proof/Laws/Exec.lean ====
section
/-! SUPPORT. What each command can do, said once: one case lemma per command, one equation for all code words, and the cases
of a step. Proofs cite these instead of unfolding `exec` and `step`. -/

namespace Sys2Proof.Machine
open Sys2Proof

/-- Everything `RESOLVE` can do (spec 40_resolver R145). -/
theorem exec_resolve_cases (kind : Kind) (bits : BitVec 16) (s : State) :
    (resolveType kind bits = none ∧ exec (.resolve kind bits) s = .next (respond .unsupported 0 0 s)) ∨
    (∃ t, resolveType kind bits = some t ∧
      exec (.resolve kind bits) s = .next (respond .ok (resolverAux t.size t.isFloat t.isSigned) 0 s)) := by
  simp only [exec, execResolve]
  cases h : resolveType kind bits with
  | none => exact .inl ⟨rfl, rfl⟩
  | some t => exact .inr ⟨t, rfl, rfl⟩

/-- Everything `PCREATE` can do (spec 40_resolver R147, R148). -/
theorem exec_pcreate_cases (kind : Kind) (bits : BitVec 16) (order : ByteOrder) (spp width : Word)
    (s : State) :
    (resolveType kind bits = none ∧
      exec (.pcreate kind bits order spp width) s =
        .next (respond .unsupported 0 0 { s with pu := PU.reset })) ∨
    (∃ t, resolveType kind bits = some t ∧
      geomOK s.cfg.maxBands.toNat t.size.toNat spp.toNat width.toNat = false ∧
      exec (.pcreate kind bits order spp width) s =
        .next (respond .geometry 0 0 { s with pu := PU.reset })) ∨
    (∃ t, resolveType kind bits = some t ∧
      geomOK s.cfg.maxBands.toNat t.size.toNat spp.toNat width.toNat = true ∧
      exec (.pcreate kind bits order spp width) s =
        .next (respond .ok (resolverAux t.size t.isFloat t.isSigned)
          (newInstance t order spp width).scanlineStride
          { s with pu := newInstance t order spp width })) := by
  simp only [exec, execPcreate]
  cases h : resolveType kind bits with
  | none => exact .inl ⟨rfl, rfl⟩
  | some t =>
    cases hg : geomOK s.cfg.maxBands.toNat t.size.toNat spp.toNat width.toNat with
    | false => exact .inr (.inl ⟨t, rfl, hg, by simp [hg, raise]⟩)
    | true => exact .inr (.inr ⟨t, rfl, hg, by simp [hg, answer]⟩)

/-- Everything `PREVERSE` can do (spec 41_predictor R161 to R167). -/
theorem exec_preverse_cases (start stop : Word) (s : State) :
    (s.pu.pvalid = false ∧ exec (.preverse start stop) s = .next (respond .notReady 0 0 s)) ∨
    (s.pu.pvalid = true ∧ (stop.toNat < start.toNat ∨ s.cfg.bufSize.toNat < stop.toNat) ∧
      exec (.preverse start stop) s = .next (respond .range 0 0 s)) ∨
    (s.pu.pvalid = true ∧ start.toNat ≤ stop.toNat ∧ stop.toNat ≤ s.cfg.bufSize.toNat ∧
      ∃ cnt p, cnt = sampleCount s.pu start.toNat stop.toNat ∧
        p = reversePass s.cfg.fadd s.pu start.toNat cnt 0 { buf := s.buf, saved := s.pu.saved } ∧
        exec (.preverse start stop) s =
          .next (respond .ok 0 (BitVec.ofNat 32 (start.toNat + cnt * s.pu.sampleSize.toNat))
            { s with buf := p.buf, pu := { s.pu with
                saved := p.saved, column := BitVec.ofNat 32 (rowOffset s.pu cnt) } })) := by
  simp only [exec, execPreverse]
  cases hv : s.pu.pvalid with
  | false => exact .inl ⟨rfl, rfl⟩
  | true =>
    by_cases hr : start.toNat > stop.toNat ∨ stop.toNat > s.cfg.bufSize.toNat
    · exact .inr (.inl ⟨rfl, by omega, by simp [hr, raise]⟩)
    · exact .inr (.inr ⟨rfl, by omega, by omega, _, _, rfl, rfl, by simp [hr, answer]⟩)

/-- Everything `HREGION` can do (spec 42_huffman R198). -/
theorem exec_hregion_cases (offset count : Word) (s : State) :
    (s.cfg.inSize.toNat < offset.toNat + count.toNat ∧
      exec (.hregion offset count) s = .next (respond .range 0 0 s)) ∨
    (offset.toNat + count.toNat ≤ s.cfg.inSize.toNat ∧
      exec (.hregion offset count) s = .next (respond .ok 0 0
        { s with hu := { s.hu with rstart := offset, rcount := count, bitcur := 0, color := .white,
                                   acc := 0, hfault := false, hvalid := true } })) := by
  simp only [exec, execHregion]
  by_cases h : offset.toNat + count.toNat > s.cfg.inSize.toNat
  · exact .inl ⟨h, by simp [h, raise]⟩
  · exact .inr ⟨by omega, by simp [h, answer]⟩

/-- Everything `HLINE` can do (spec 42_huffman R199). -/
theorem exec_hline_cases (s : State) :
    (s.hu.hvalid = false ∧ exec .hline s = .next (respond .notReady 0 0 s)) ∨
    (s.hu.hvalid = true ∧ s.hu.hfault = true ∧ exec .hline s = .next (respond s.hu.hcause 0 s.hu.acc s)) ∨
    (s.hu.hvalid = true ∧ s.hu.hfault = false ∧
      exec .hline s = .next (respond .ok 0 0 { s with hu := { s.hu with color := .white, acc := 0 } })) := by
  simp only [exec, execHline]
  cases hv : s.hu.hvalid with
  | false => exact .inl ⟨rfl, rfl⟩
  | true =>
    cases hf : s.hu.hfault with
    | true => exact .inr (.inl ⟨rfl, rfl, rfl⟩)
    | false => exact .inr (.inr ⟨rfl, rfl, rfl⟩)

/-- Everything `HNEXT` can do (spec 42_huffman R200 to R210). The fault is out of reach: `HREGION` lets no region
outside `IN` in. The refusal is for tables without a trie. -/
theorem exec_hnext_cases (sel : Sel) (s : State) :
    (s.hu.hvalid = false ∧ exec (.hnext sel) s = .next (respond .notReady 0 0 s)) ∨
    (s.hu.hvalid = true ∧ s.hu.hfault = true ∧
      exec (.hnext sel) s = .next (respond s.hu.hcause 0 s.hu.acc s)) ∨
    (s.hu.hvalid = true ∧ s.hu.hfault = false ∧ regionInside s = false ∧
      exec (.hnext sel) s = .fault .noSuchInAddress) ∨
    (s.hu.hvalid = true ∧ s.hu.hfault = false ∧ regionInside s = true ∧
      rom s.cfg.tables (selColor s.hu.color sel) = none ∧ exec (.hnext sel) s = .refused .noHardware) ∨
    (s.hu.hvalid = true ∧ s.hu.hfault = false ∧ regionInside s = true ∧
      ∃ t, rom s.cfg.tables (selColor s.hu.color sel) = some t ∧
      ((∃ run used, decodeRun t 0 0 0 (unreadBits s) = .done run used ∧
          exec (.hnext sel) s = .next (huFinish run (advanceBits used s))) ∨
       (∃ st acc used, decodeRun t 0 0 0 (unreadBits s) = .failed st acc used ∧
          exec (.hnext sel) s = .next (huFail st acc (advanceBits used s))))) := by
  simp only [exec, execHnext]
  cases hv : s.hu.hvalid with
  | false => exact .inl ⟨rfl, rfl⟩
  | true =>
    cases hf : s.hu.hfault with
    | true => exact .inr (.inl ⟨rfl, rfl, rfl⟩)
    | false =>
      cases hr : regionInside s with
      | false => exact .inr (.inr (.inl ⟨rfl, rfl, rfl, rfl⟩))
      | true =>
        cases ht : rom s.cfg.tables (selColor s.hu.color sel) with
        | none => exact .inr (.inr (.inr (.inl ⟨rfl, rfl, rfl, rfl, rfl⟩)))
        | some t =>
          refine .inr (.inr (.inr (.inr ⟨rfl, rfl, rfl, t, rfl, ?_⟩)))
          cases hd : decodeRun t 0 0 0 (unreadBits s) with
          | done run used => exact .inl ⟨run, used, rfl, by simp [hd]⟩
          | failed st acc used => exact .inr ⟨st, acc, used, rfl, by simp [hd]⟩

/-- The meaning of every code word is one operation over its table row (spec 42_huffman R202). -/
theorem exec_codeWord {i : Instr} {c : Color} {v : Nat} (s : State) (h : i.codeWord? = some (c, v)) :
    exec i s = runWord c v s := by
  cases i <;> first | (cases h; rfl) | cases h

/-- Everything a step can do: run an instruction that was fetched, or end as the fetch says. -/
theorem step_cases (s : State) :
    (∃ i s', fetch s = .run i s' ∧ step s = exec i s') ∨ (∃ o, fetch s = .stop o ∧ step s = o) := by
  simp only [step]
  cases fetch s with
  | run i s' => exact .inl ⟨i, s', rfl, rfl⟩
  | stop o => exact .inr ⟨o, rfl, rfl⟩

/-- The check for a touch of existing bytes (spec 20_memory R61, R62). -/
theorem touchFault?_eq_none_iff (cfg : Params) (t : HostTouch) : touchFault? cfg t = none ↔ TouchExists cfg t := by
  cases t <;> simp [touchFault?, TouchExists]

/-- Two ranges of bytes have one in common. -/
theorem overlaps_iff (pos count lo hi : Nat) :
    overlaps pos count lo hi = true ↔ ∃ x, (lo ≤ x ∧ x < hi) ∧ pos ≤ x ∧ x < pos + count := by
  simp only [overlaps, decide_eq_true_eq]
  constructor
  · intro h; exact ⟨max pos lo, by omega⟩
  · rintro ⟨x, h⟩; omega

/-- The check for a touch of a running command's region (spec 20_memory R79). -/
theorem touchForbidden_iff (hu : HU) (i : Instr) (t : HostTouch) :
    touchForbidden hu i t = true ↔ TouchMeets hu i t := by
  cases i <;> cases t <;> simp [touchForbidden, TouchMeets, overlaps_iff]

/-- What the host does during a command, when it only touches memory and no touch is forbidden. -/
theorem hostMeanwhile_touches (i : Option Instr) (ts : List HostTouch) (s : State)
    (hex : ∀ t ∈ ts, touchFault? s.cfg t = none)
    (hok : ∀ t ∈ ts, (i.map fun j => touchForbidden s.hu j t).getD false = false) :
    hostMeanwhile i (ts.map .touch) s = .next (ts.foldl touchState s) := by
  induction ts generalizing s with
  | nil => rfl
  | cons t ts ih =>
    have hcfg : (touchState s t).cfg = s.cfg := by cases t <;> rfl
    have hhu : (touchState s t).hu = s.hu := by cases t <;> rfl
    have ih' := ih (touchState s t) (fun x hx => by rw [hcfg]; exact hex x (by simp [hx]))
      (fun x hx => by rw [hhu]; exact hok x (by simp [hx]))
    simp [hostMeanwhile, hok t (by simp), applyTouch, hex t (by simp), ih']

/-- What the host does during a command leaves the registers as they are. -/
theorem hostMeanwhile_registers (i : Option Instr) (ms : List Meanwhile) {s t : State}
    (h : hostMeanwhile i ms s = .next t) :
    t.pu = s.pu ∧ t.hu = s.hu ∧ t.cfg = s.cfg ∧ t.rsp = s.rsp ∧ t.inbox = s.inbox := by
  induction ms generalizing s with
  | nil => cases h; exact ⟨rfl, rfl, rfl, rfl, rfl⟩
  | cons m ms ih =>
    cases m with
    | reset => simp [hostMeanwhile] at h
    | command w => simp [hostMeanwhile] at h
    | touch x =>
      simp only [hostMeanwhile] at h
      split at h
      · cases h
      · simp only [applyTouch] at h
        cases hf : touchFault? s.cfg x with
        | some f => simp [hf] at h
        | none =>
          simp only [hf] at h
          have := ih h
          cases x <;> simpa [touchState] using this

end Sys2Proof.Machine
end

