-- ==== Sys2Proof/Laws/Memory.lean ====
section
/-! SUPPORT. The laws of the memories, the carry buffer and the samples: a read after a write, and that every operation keeps
the canonical form. -/

namespace Sys2Proof.Machine
open Sys2Proof

/-! ### One byte -/

@[simp] theorem memGet?_memSet_same (m : List Host.Cell) (a : Nat) (b : Byte) :
    memGet? (memSet m a b) a = some b := by
  induction m with
  | nil => simp [memSet, memGet?]
  | cons c t ih =>
    obtain ⟨k, v⟩ := c
    unfold memSet
    split
    · simp [memGet?]
    · split
      · simp [memGet?]
      · rename_i h1 h2
        simp [memGet?, h1, h2, ih]

theorem memGet?_memSet_ne (m : List Host.Cell) {a x : Nat} (b : Byte) (h : x ≠ a) :
    memGet? (memSet m a b) x = memGet? m x := by
  induction m with
  | nil =>
    simp only [memSet, memGet?]
    split <;> simp_all
  | cons c t ih =>
    obtain ⟨k, v⟩ := c
    unfold memSet
    split
    · rename_i h1
      simp only [memGet?]
      by_cases hx : x < a
      · simp [hx, show x < k by omega]
      · simp [hx, h]
    · split
      · rename_i h1 h2
        subst h2
        simp only [memGet?]
        by_cases hx : x < a <;> simp [hx, h]
      · simp only [memGet?, ih]

theorem memRising_mono {lo lo' : Nat} (m : List Host.Cell) (h : lo' ≤ lo) (hm : memRising lo m = true) :
    memRising lo' m = true := by
  cases m with
  | nil => rfl
  | cons c t =>
    obtain ⟨k, v⟩ := c
    simp only [memRising, Bool.and_eq_true, decide_eq_true_eq] at hm ⊢
    exact ⟨by omega, hm.2⟩

theorem memRising_memSet {lo a : Nat} (m : List Host.Cell) (b : Byte) (h : lo ≤ a)
    (hm : memRising lo m = true) : memRising lo (memSet m a b) = true := by
  induction m generalizing lo with
  | nil => simp [memSet, memRising, h]
  | cons c t ih =>
    obtain ⟨k, v⟩ := c
    simp only [memRising, Bool.and_eq_true, decide_eq_true_eq] at hm
    unfold memSet
    split
    · simp only [memRising, Bool.and_eq_true, decide_eq_true_eq]
      exact ⟨h, by omega, hm.2⟩
    · split
      · rename_i h1 h2
        subst h2
        simp only [memRising, Bool.and_eq_true, decide_eq_true_eq]
        exact ⟨h, hm.2⟩
      · simp only [memRising, Bool.and_eq_true, decide_eq_true_eq]
        exact ⟨hm.1, ih (by omega) hm.2⟩

/-- A write keeps the canonical form. -/
theorem memWf_memSet (m : List Host.Cell) (a : Nat) (b : Byte) (h : memWf m = true) :
    memWf (memSet m a b) = true :=
  memRising_memSet m b (Nat.zero_le a) h

theorem memInside_memSet {size a : Nat} (m : List Host.Cell) (b : Byte) (ha : a < size)
    (h : memInside size m = true) : memInside size (memSet m a b) = true := by
  induction m with
  | nil => simp [memSet, memInside, ha]
  | cons c t ih =>
    obtain ⟨k, v⟩ := c
    simp only [memInside, List.all_cons, Bool.and_eq_true, decide_eq_true_eq] at h ih ⊢
    unfold memSet
    split
    · simpa [ha] using h
    · split
      · simp [ha]
        simpa using h.2
      · simp only [List.all_cons, Bool.and_eq_true, decide_eq_true_eq]
        exact ⟨h.1, ih h.2⟩

/-! ### Several bytes -/

@[simp] theorem readBytes_length (sp : Space) (m : List Host.Cell) (a n : Nat) :
    (readBytes sp m a n).length = n := by
  induction n generalizing a with
  | zero => rfl
  | succ n ih => simp [readBytes, ih]

theorem memGet?_writeBytes_outside (m : List Host.Cell) (a : Nat) (bs : List Byte) {x : Nat}
    (h : x < a ∨ a + bs.length ≤ x) : memGet? (writeBytes m a bs) x = memGet? m x := by
  induction bs generalizing m a with
  | nil => rfl
  | cons b bs ih =>
    simp only [List.length_cons] at h
    rw [writeBytes, ih _ _ (by omega), memGet?_memSet_ne _ _ (by omega)]

theorem memGet?_writeBytes_inside (m : List Host.Cell) (a : Nat) (bs : List Byte) {i : Nat}
    (h : i < bs.length) : memGet? (writeBytes m a bs) (a + i) = some bs[i] := by
  induction bs generalizing m a i with
  | nil => simp at h
  | cons b bs ih =>
    rw [writeBytes]
    cases i with
    | zero =>
      rw [memGet?_writeBytes_outside _ _ _ (by omega)]
      simp
    | succ i =>
      have := ih (memSet m a b) (a + 1) (i := i) (by simpa using h)
      simpa [Nat.add_assoc, Nat.add_comm 1 i] using this

/-- Writing bytes keeps the canonical form. -/
theorem memWf_writeBytes (m : List Host.Cell) (a : Nat) (bs : List Byte) (h : memWf m = true) :
    memWf (writeBytes m a bs) = true := by
  induction bs generalizing m a with
  | nil => exact h
  | cons b bs ih => exact ih _ _ (memWf_memSet _ _ _ h)

theorem memInside_writeBytes {size : Nat} (m : List Host.Cell) (a : Nat) (bs : List Byte)
    (hb : a + bs.length ≤ size) (h : memInside size m = true) :
    memInside size (writeBytes m a bs) = true := by
  induction bs generalizing m a with
  | nil => exact h
  | cons b bs ih =>
    simp only [List.length_cons] at hb
    exact ih _ _ (by omega) (memInside_memSet _ _ (by omega) h)

/-! ### Samples -/

@[simp] theorem orderBytes_orderBytes (o : ByteOrder) (bs : List Byte) :
    orderBytes o (orderBytes o bs) = bs := by cases o <;> simp [orderBytes]

@[simp] theorem orderBytes_length (o : ByteOrder) (bs : List Byte) :
    (orderBytes o bs).length = bs.length := by cases o <;> simp [orderBytes]

@[simp] theorem leBytes_length (n v : Nat) : (leBytes n v).length = n := by
  induction n generalizing v with
  | zero => rfl
  | succ n ih => simp [leBytes, ih]

theorem leNat_lt (bs : List Byte) : leNat bs < 256 ^ bs.length := by
  induction bs with
  | nil => simp [leNat]
  | cons b bs ih =>
    have := b.isLt
    simp only [leNat, List.length_cons, Nat.pow_succ]
    omega

/-- Storing a sample keeps the canonical form. -/
theorem memWf_storeSample (o : ByteOrder) (size : Nat) (m : List Host.Cell) (pos : Nat) (v : Sample)
    (h : memWf m = true) : memWf (storeSample o size m pos v) = true :=
  memWf_writeBytes _ _ _ h

theorem memInside_storeSample {n : Nat} (o : ByteOrder) (size : Nat) (m : List Host.Cell) (pos : Nat)
    (v : Sample) (hp : pos + size ≤ n) (h : memInside n m = true) :
    memInside n (storeSample o size m pos v) = true :=
  memInside_writeBytes _ _ _ (by simpa using hp) h

/-- A store leaves every other byte. -/
theorem memGet?_storeSample_outside (o : ByteOrder) (size : Nat) (m : List Host.Cell) (pos : Nat)
    (v : Sample) {x : Nat} (h : x < pos ∨ pos + size ≤ x) :
    memGet? (storeSample o size m pos v) x = memGet? m x :=
  memGet?_writeBytes_outside _ _ _ (by simpa using h)

/-- A sample depends on the bytes it is read from, and on nothing else. -/
theorem loadSample_congr (o : ByteOrder) (size : Nat) {m m' : List Host.Cell} {pos : Nat}
    (h : ∀ i < size, memGet? m (pos + i) = memGet? m' (pos + i)) :
    loadSample o size m pos = loadSample o size m' pos := by
  have key : readBytes .buf m pos size = readBytes .buf m' pos size := by
    induction size generalizing pos with
    | zero => rfl
    | succ n ih =>
      have h0 := h 0 (by omega)
      simp only [Nat.add_zero] at h0
      have ih' := ih (pos := pos + 1) (fun i hi => by
        have := h (i + 1) (by omega)
        simpa [Nat.add_assoc, Nat.add_comm 1 i] using this)
      simp [readBytes, readByte, h0, ih']
  simp [loadSample, key]

/-! ### The carry buffer -/

@[simp] theorem savedSet_length (saved : List Sample) (band : Nat) (v : Sample) :
    (savedSet saved band v).length = saved.length := by simp [savedSet]

theorem savedGet_savedSet_same (saved : List Sample) {band : Nat} (v : Sample) (h : band < saved.length) :
    savedGet (savedSet saved band v) band = v := by
  simp [savedGet, savedSet, h]

theorem savedGet_savedSet_ne (saved : List Sample) {band band' : Nat} (v : Sample) (h : band ≠ band') :
    savedGet (savedSet saved band v) band' = savedGet saved band' := by
  simp [savedGet, savedSet, h]

/-! ### The pass of `PREVERSE` -/

/-- One sample keeps the canonical form. -/
theorem memWf_reverseSample (impl : FloatAdd) (pu : PU) (a k : Nat) (p : Pass) (h : memWf p.buf = true) :
    memWf (reverseSample impl pu a k p).buf = true := by
  simp only [reverseSample]
  split
  · exact h
  · exact memWf_storeSample _ _ _ _ _ h

/-- A whole pass keeps the canonical form. -/
theorem memWf_reversePass (impl : FloatAdd) (pu : PU) (a n k : Nat) (p : Pass) (h : memWf p.buf = true) :
    memWf (reversePass impl pu a n k p).buf = true := by
  induction n generalizing k p with
  | zero => exact h
  | succ n ih => exact ih _ _ (memWf_reverseSample _ _ _ _ _ h)

/-- One sample writes only its own bytes. -/
theorem memGet?_reverseSample (impl : FloatAdd) (pu : PU) (a k : Nat) (p : Pass) {x : Nat}
    (h : x < a + k * pu.sampleSize.toNat ∨ a + k * pu.sampleSize.toNat + pu.sampleSize.toNat ≤ x) :
    memGet? (reverseSample impl pu a k p).buf x = memGet? p.buf x := by
  simp only [reverseSample]
  split
  · rfl
  · exact memGet?_storeSample_outside _ _ _ _ _ h

/-- A pass of `n + 1` samples is one of `n` samples and then one sample more. -/
theorem reversePass_succ (impl : FloatAdd) (pu : PU) (a n k : Nat) (p : Pass) :
    reversePass impl pu a (n + 1) k p =
      reverseSample impl pu a (k + n) (reversePass impl pu a n k p) := by
  induction n generalizing k p with
  | zero => rfl
  | succ n ih =>
    rw [reversePass, ih]
    simp [reversePass, Nat.add_assoc, Nat.add_comm 1 n]

/-- The memories of the machine right after reset are in their canonical form. -/
theorem reset_memWf (p : Params) :
    memWf (State.resetOf p).buf = true ∧ memWf (State.resetOf p).inp = true := ⟨rfl, rfl⟩

/-- What the host writes keeps the canonical form of both memories. -/
theorem touchState_memWf (s : State) (t : HostTouch) (hb : memWf s.buf = true) (hi : memWf s.inp = true) :
    memWf (touchState s t).buf = true ∧ memWf (touchState s t).inp = true := by
  cases t with
  | readBuf p n => exact ⟨hb, hi⟩
  | writeBuf p bs => exact ⟨memWf_writeBytes _ _ _ hb, hi⟩
  | readIn p n => exact ⟨hb, hi⟩
  | writeIn p bs => exact ⟨hb, memWf_writeBytes _ _ _ hi⟩

end Sys2Proof.Machine
end

