-- ==== Sys2Proof/Laws/PerInstr.lean ====
section
/-! SUPPORT. Facts about every instruction as syntax, one lemma per constructor. -/

namespace Sys2Proof.Laws.EncodingShape
open Sys2Proof Sys2Proof.Machine

/-- A code word has in the default tables a pattern of 2 to 13 bits (spec 31_code_tables R131) and is the word of its colour and run
length; a command's fields are legal (spec 30_encoding R92, R94). -/
def Statement (i : Instr) : Prop :=
  match i.codeWord? with
  | some (c, run) =>
    2 ≤ (patternOf .standard c run).length ∧ (patternOf .standard c run).length ≤ 13 ∧ wordInstr c run = some i
  | none => (commandFields i).wellFormed = true

theorem resolve (kind : Kind) (bits : BitVec 16) : Statement (.resolve kind bits) := by
  cases kind <;>
    simp [Statement, RawCommand.wellFormed, RawCommand.opcodeKnown, RawCommand.reservedZero,
      RawCommand.kindLegal, RawCommand.selLegal, Kind.code]

theorem pcreate (kind : Kind) (bits : BitVec 16) (order : ByteOrder) (spp width : Word) :
    Statement (.pcreate kind bits order spp width) := by
  cases kind <;> cases order <;>
    simp [Statement, RawCommand.wellFormed, RawCommand.opcodeKnown, RawCommand.reservedZero,
      RawCommand.kindLegal, RawCommand.selLegal, Kind.code, ByteOrder.code]

theorem preverse (start stop : Word) : Statement (.preverse start stop) :=
  (by rfl : RawCommand.wellFormed _ = true)

theorem hregion (offset count : Word) : Statement (.hregion offset count) :=
  (by rfl : RawCommand.wellFormed _ = true)

theorem hline : Statement .hline := (by rfl : RawCommand.wellFormed _ = true)

theorem hnext (sel : Sel) : Statement (.hnext sel) := by
  cases sel <;> (show (commandFields _).wellFormed = true; rfl)

theorem mhw0 : Statement .mhw0 := by
  show 2 ≤ (patternOf .standard .white 0).length ∧ (patternOf .standard .white 0).length ≤ 13 ∧ wordInstr .white 0 = some .mhw0
  decide

theorem mhw1 : Statement .mhw1 := by
  show 2 ≤ (patternOf .standard .white 1).length ∧ (patternOf .standard .white 1).length ≤ 13 ∧ wordInstr .white 1 = some .mhw1
  decide

theorem mhw2 : Statement .mhw2 := by
  show 2 ≤ (patternOf .standard .white 2).length ∧ (patternOf .standard .white 2).length ≤ 13 ∧ wordInstr .white 2 = some .mhw2
  decide

theorem mhw3 : Statement .mhw3 := by
  show 2 ≤ (patternOf .standard .white 3).length ∧ (patternOf .standard .white 3).length ≤ 13 ∧ wordInstr .white 3 = some .mhw3
  decide

theorem mhw4 : Statement .mhw4 := by
  show 2 ≤ (patternOf .standard .white 4).length ∧ (patternOf .standard .white 4).length ≤ 13 ∧ wordInstr .white 4 = some .mhw4
  decide

theorem mhw5 : Statement .mhw5 := by
  show 2 ≤ (patternOf .standard .white 5).length ∧ (patternOf .standard .white 5).length ≤ 13 ∧ wordInstr .white 5 = some .mhw5
  decide

theorem mhw6 : Statement .mhw6 := by
  show 2 ≤ (patternOf .standard .white 6).length ∧ (patternOf .standard .white 6).length ≤ 13 ∧ wordInstr .white 6 = some .mhw6
  decide

theorem mhw7 : Statement .mhw7 := by
  show 2 ≤ (patternOf .standard .white 7).length ∧ (patternOf .standard .white 7).length ≤ 13 ∧ wordInstr .white 7 = some .mhw7
  decide

theorem mhw8 : Statement .mhw8 := by
  show 2 ≤ (patternOf .standard .white 8).length ∧ (patternOf .standard .white 8).length ≤ 13 ∧ wordInstr .white 8 = some .mhw8
  decide

theorem mhw9 : Statement .mhw9 := by
  show 2 ≤ (patternOf .standard .white 9).length ∧ (patternOf .standard .white 9).length ≤ 13 ∧ wordInstr .white 9 = some .mhw9
  decide

theorem mhw10 : Statement .mhw10 := by
  show 2 ≤ (patternOf .standard .white 10).length ∧ (patternOf .standard .white 10).length ≤ 13 ∧ wordInstr .white 10 = some .mhw10
  decide

theorem mhw11 : Statement .mhw11 := by
  show 2 ≤ (patternOf .standard .white 11).length ∧ (patternOf .standard .white 11).length ≤ 13 ∧ wordInstr .white 11 = some .mhw11
  decide

theorem mhw12 : Statement .mhw12 := by
  show 2 ≤ (patternOf .standard .white 12).length ∧ (patternOf .standard .white 12).length ≤ 13 ∧ wordInstr .white 12 = some .mhw12
  decide

theorem mhw13 : Statement .mhw13 := by
  show 2 ≤ (patternOf .standard .white 13).length ∧ (patternOf .standard .white 13).length ≤ 13 ∧ wordInstr .white 13 = some .mhw13
  decide

theorem mhw14 : Statement .mhw14 := by
  show 2 ≤ (patternOf .standard .white 14).length ∧ (patternOf .standard .white 14).length ≤ 13 ∧ wordInstr .white 14 = some .mhw14
  decide

theorem mhw15 : Statement .mhw15 := by
  show 2 ≤ (patternOf .standard .white 15).length ∧ (patternOf .standard .white 15).length ≤ 13 ∧ wordInstr .white 15 = some .mhw15
  decide

theorem mhw16 : Statement .mhw16 := by
  show 2 ≤ (patternOf .standard .white 16).length ∧ (patternOf .standard .white 16).length ≤ 13 ∧ wordInstr .white 16 = some .mhw16
  decide

theorem mhw17 : Statement .mhw17 := by
  show 2 ≤ (patternOf .standard .white 17).length ∧ (patternOf .standard .white 17).length ≤ 13 ∧ wordInstr .white 17 = some .mhw17
  decide

theorem mhw18 : Statement .mhw18 := by
  show 2 ≤ (patternOf .standard .white 18).length ∧ (patternOf .standard .white 18).length ≤ 13 ∧ wordInstr .white 18 = some .mhw18
  decide

theorem mhw19 : Statement .mhw19 := by
  show 2 ≤ (patternOf .standard .white 19).length ∧ (patternOf .standard .white 19).length ≤ 13 ∧ wordInstr .white 19 = some .mhw19
  decide

theorem mhw20 : Statement .mhw20 := by
  show 2 ≤ (patternOf .standard .white 20).length ∧ (patternOf .standard .white 20).length ≤ 13 ∧ wordInstr .white 20 = some .mhw20
  decide

theorem mhw21 : Statement .mhw21 := by
  show 2 ≤ (patternOf .standard .white 21).length ∧ (patternOf .standard .white 21).length ≤ 13 ∧ wordInstr .white 21 = some .mhw21
  decide

theorem mhw22 : Statement .mhw22 := by
  show 2 ≤ (patternOf .standard .white 22).length ∧ (patternOf .standard .white 22).length ≤ 13 ∧ wordInstr .white 22 = some .mhw22
  decide

theorem mhw23 : Statement .mhw23 := by
  show 2 ≤ (patternOf .standard .white 23).length ∧ (patternOf .standard .white 23).length ≤ 13 ∧ wordInstr .white 23 = some .mhw23
  decide

theorem mhw24 : Statement .mhw24 := by
  show 2 ≤ (patternOf .standard .white 24).length ∧ (patternOf .standard .white 24).length ≤ 13 ∧ wordInstr .white 24 = some .mhw24
  decide

theorem mhw25 : Statement .mhw25 := by
  show 2 ≤ (patternOf .standard .white 25).length ∧ (patternOf .standard .white 25).length ≤ 13 ∧ wordInstr .white 25 = some .mhw25
  decide

theorem mhw26 : Statement .mhw26 := by
  show 2 ≤ (patternOf .standard .white 26).length ∧ (patternOf .standard .white 26).length ≤ 13 ∧ wordInstr .white 26 = some .mhw26
  decide

theorem mhw27 : Statement .mhw27 := by
  show 2 ≤ (patternOf .standard .white 27).length ∧ (patternOf .standard .white 27).length ≤ 13 ∧ wordInstr .white 27 = some .mhw27
  decide

theorem mhw28 : Statement .mhw28 := by
  show 2 ≤ (patternOf .standard .white 28).length ∧ (patternOf .standard .white 28).length ≤ 13 ∧ wordInstr .white 28 = some .mhw28
  decide

theorem mhw29 : Statement .mhw29 := by
  show 2 ≤ (patternOf .standard .white 29).length ∧ (patternOf .standard .white 29).length ≤ 13 ∧ wordInstr .white 29 = some .mhw29
  decide

theorem mhw30 : Statement .mhw30 := by
  show 2 ≤ (patternOf .standard .white 30).length ∧ (patternOf .standard .white 30).length ≤ 13 ∧ wordInstr .white 30 = some .mhw30
  decide

theorem mhw31 : Statement .mhw31 := by
  show 2 ≤ (patternOf .standard .white 31).length ∧ (patternOf .standard .white 31).length ≤ 13 ∧ wordInstr .white 31 = some .mhw31
  decide

theorem mhw32 : Statement .mhw32 := by
  show 2 ≤ (patternOf .standard .white 32).length ∧ (patternOf .standard .white 32).length ≤ 13 ∧ wordInstr .white 32 = some .mhw32
  decide

theorem mhw33 : Statement .mhw33 := by
  show 2 ≤ (patternOf .standard .white 33).length ∧ (patternOf .standard .white 33).length ≤ 13 ∧ wordInstr .white 33 = some .mhw33
  decide

theorem mhw34 : Statement .mhw34 := by
  show 2 ≤ (patternOf .standard .white 34).length ∧ (patternOf .standard .white 34).length ≤ 13 ∧ wordInstr .white 34 = some .mhw34
  decide

theorem mhw35 : Statement .mhw35 := by
  show 2 ≤ (patternOf .standard .white 35).length ∧ (patternOf .standard .white 35).length ≤ 13 ∧ wordInstr .white 35 = some .mhw35
  decide

theorem mhw36 : Statement .mhw36 := by
  show 2 ≤ (patternOf .standard .white 36).length ∧ (patternOf .standard .white 36).length ≤ 13 ∧ wordInstr .white 36 = some .mhw36
  decide

theorem mhw37 : Statement .mhw37 := by
  show 2 ≤ (patternOf .standard .white 37).length ∧ (patternOf .standard .white 37).length ≤ 13 ∧ wordInstr .white 37 = some .mhw37
  decide

theorem mhw38 : Statement .mhw38 := by
  show 2 ≤ (patternOf .standard .white 38).length ∧ (patternOf .standard .white 38).length ≤ 13 ∧ wordInstr .white 38 = some .mhw38
  decide

theorem mhw39 : Statement .mhw39 := by
  show 2 ≤ (patternOf .standard .white 39).length ∧ (patternOf .standard .white 39).length ≤ 13 ∧ wordInstr .white 39 = some .mhw39
  decide

theorem mhw40 : Statement .mhw40 := by
  show 2 ≤ (patternOf .standard .white 40).length ∧ (patternOf .standard .white 40).length ≤ 13 ∧ wordInstr .white 40 = some .mhw40
  decide

theorem mhw41 : Statement .mhw41 := by
  show 2 ≤ (patternOf .standard .white 41).length ∧ (patternOf .standard .white 41).length ≤ 13 ∧ wordInstr .white 41 = some .mhw41
  decide

theorem mhw42 : Statement .mhw42 := by
  show 2 ≤ (patternOf .standard .white 42).length ∧ (patternOf .standard .white 42).length ≤ 13 ∧ wordInstr .white 42 = some .mhw42
  decide

theorem mhw43 : Statement .mhw43 := by
  show 2 ≤ (patternOf .standard .white 43).length ∧ (patternOf .standard .white 43).length ≤ 13 ∧ wordInstr .white 43 = some .mhw43
  decide

theorem mhw44 : Statement .mhw44 := by
  show 2 ≤ (patternOf .standard .white 44).length ∧ (patternOf .standard .white 44).length ≤ 13 ∧ wordInstr .white 44 = some .mhw44
  decide

theorem mhw45 : Statement .mhw45 := by
  show 2 ≤ (patternOf .standard .white 45).length ∧ (patternOf .standard .white 45).length ≤ 13 ∧ wordInstr .white 45 = some .mhw45
  decide

theorem mhw46 : Statement .mhw46 := by
  show 2 ≤ (patternOf .standard .white 46).length ∧ (patternOf .standard .white 46).length ≤ 13 ∧ wordInstr .white 46 = some .mhw46
  decide

theorem mhw47 : Statement .mhw47 := by
  show 2 ≤ (patternOf .standard .white 47).length ∧ (patternOf .standard .white 47).length ≤ 13 ∧ wordInstr .white 47 = some .mhw47
  decide

theorem mhw48 : Statement .mhw48 := by
  show 2 ≤ (patternOf .standard .white 48).length ∧ (patternOf .standard .white 48).length ≤ 13 ∧ wordInstr .white 48 = some .mhw48
  decide

theorem mhw49 : Statement .mhw49 := by
  show 2 ≤ (patternOf .standard .white 49).length ∧ (patternOf .standard .white 49).length ≤ 13 ∧ wordInstr .white 49 = some .mhw49
  decide

theorem mhw50 : Statement .mhw50 := by
  show 2 ≤ (patternOf .standard .white 50).length ∧ (patternOf .standard .white 50).length ≤ 13 ∧ wordInstr .white 50 = some .mhw50
  decide

theorem mhw51 : Statement .mhw51 := by
  show 2 ≤ (patternOf .standard .white 51).length ∧ (patternOf .standard .white 51).length ≤ 13 ∧ wordInstr .white 51 = some .mhw51
  decide

theorem mhw52 : Statement .mhw52 := by
  show 2 ≤ (patternOf .standard .white 52).length ∧ (patternOf .standard .white 52).length ≤ 13 ∧ wordInstr .white 52 = some .mhw52
  decide

theorem mhw53 : Statement .mhw53 := by
  show 2 ≤ (patternOf .standard .white 53).length ∧ (patternOf .standard .white 53).length ≤ 13 ∧ wordInstr .white 53 = some .mhw53
  decide

theorem mhw54 : Statement .mhw54 := by
  show 2 ≤ (patternOf .standard .white 54).length ∧ (patternOf .standard .white 54).length ≤ 13 ∧ wordInstr .white 54 = some .mhw54
  decide

theorem mhw55 : Statement .mhw55 := by
  show 2 ≤ (patternOf .standard .white 55).length ∧ (patternOf .standard .white 55).length ≤ 13 ∧ wordInstr .white 55 = some .mhw55
  decide

theorem mhw56 : Statement .mhw56 := by
  show 2 ≤ (patternOf .standard .white 56).length ∧ (patternOf .standard .white 56).length ≤ 13 ∧ wordInstr .white 56 = some .mhw56
  decide

theorem mhw57 : Statement .mhw57 := by
  show 2 ≤ (patternOf .standard .white 57).length ∧ (patternOf .standard .white 57).length ≤ 13 ∧ wordInstr .white 57 = some .mhw57
  decide

theorem mhw58 : Statement .mhw58 := by
  show 2 ≤ (patternOf .standard .white 58).length ∧ (patternOf .standard .white 58).length ≤ 13 ∧ wordInstr .white 58 = some .mhw58
  decide

theorem mhw59 : Statement .mhw59 := by
  show 2 ≤ (patternOf .standard .white 59).length ∧ (patternOf .standard .white 59).length ≤ 13 ∧ wordInstr .white 59 = some .mhw59
  decide

theorem mhw60 : Statement .mhw60 := by
  show 2 ≤ (patternOf .standard .white 60).length ∧ (patternOf .standard .white 60).length ≤ 13 ∧ wordInstr .white 60 = some .mhw60
  decide

theorem mhw61 : Statement .mhw61 := by
  show 2 ≤ (patternOf .standard .white 61).length ∧ (patternOf .standard .white 61).length ≤ 13 ∧ wordInstr .white 61 = some .mhw61
  decide

theorem mhw62 : Statement .mhw62 := by
  show 2 ≤ (patternOf .standard .white 62).length ∧ (patternOf .standard .white 62).length ≤ 13 ∧ wordInstr .white 62 = some .mhw62
  decide

theorem mhw63 : Statement .mhw63 := by
  show 2 ≤ (patternOf .standard .white 63).length ∧ (patternOf .standard .white 63).length ≤ 13 ∧ wordInstr .white 63 = some .mhw63
  decide

theorem mhw64 : Statement .mhw64 := by
  show 2 ≤ (patternOf .standard .white 64).length ∧ (patternOf .standard .white 64).length ≤ 13 ∧ wordInstr .white 64 = some .mhw64
  decide

theorem mhw128 : Statement .mhw128 := by
  show 2 ≤ (patternOf .standard .white 128).length ∧ (patternOf .standard .white 128).length ≤ 13 ∧ wordInstr .white 128 = some .mhw128
  decide

theorem mhw192 : Statement .mhw192 := by
  show 2 ≤ (patternOf .standard .white 192).length ∧ (patternOf .standard .white 192).length ≤ 13 ∧ wordInstr .white 192 = some .mhw192
  decide

theorem mhw256 : Statement .mhw256 := by
  show 2 ≤ (patternOf .standard .white 256).length ∧ (patternOf .standard .white 256).length ≤ 13 ∧ wordInstr .white 256 = some .mhw256
  decide

theorem mhw320 : Statement .mhw320 := by
  show 2 ≤ (patternOf .standard .white 320).length ∧ (patternOf .standard .white 320).length ≤ 13 ∧ wordInstr .white 320 = some .mhw320
  decide

theorem mhw384 : Statement .mhw384 := by
  show 2 ≤ (patternOf .standard .white 384).length ∧ (patternOf .standard .white 384).length ≤ 13 ∧ wordInstr .white 384 = some .mhw384
  decide

theorem mhw448 : Statement .mhw448 := by
  show 2 ≤ (patternOf .standard .white 448).length ∧ (patternOf .standard .white 448).length ≤ 13 ∧ wordInstr .white 448 = some .mhw448
  decide

theorem mhw512 : Statement .mhw512 := by
  show 2 ≤ (patternOf .standard .white 512).length ∧ (patternOf .standard .white 512).length ≤ 13 ∧ wordInstr .white 512 = some .mhw512
  decide

theorem mhw576 : Statement .mhw576 := by
  show 2 ≤ (patternOf .standard .white 576).length ∧ (patternOf .standard .white 576).length ≤ 13 ∧ wordInstr .white 576 = some .mhw576
  decide

theorem mhw640 : Statement .mhw640 := by
  show 2 ≤ (patternOf .standard .white 640).length ∧ (patternOf .standard .white 640).length ≤ 13 ∧ wordInstr .white 640 = some .mhw640
  decide

theorem mhw704 : Statement .mhw704 := by
  show 2 ≤ (patternOf .standard .white 704).length ∧ (patternOf .standard .white 704).length ≤ 13 ∧ wordInstr .white 704 = some .mhw704
  decide

theorem mhw768 : Statement .mhw768 := by
  show 2 ≤ (patternOf .standard .white 768).length ∧ (patternOf .standard .white 768).length ≤ 13 ∧ wordInstr .white 768 = some .mhw768
  decide

theorem mhw832 : Statement .mhw832 := by
  show 2 ≤ (patternOf .standard .white 832).length ∧ (patternOf .standard .white 832).length ≤ 13 ∧ wordInstr .white 832 = some .mhw832
  decide

theorem mhw896 : Statement .mhw896 := by
  show 2 ≤ (patternOf .standard .white 896).length ∧ (patternOf .standard .white 896).length ≤ 13 ∧ wordInstr .white 896 = some .mhw896
  decide

theorem mhw960 : Statement .mhw960 := by
  show 2 ≤ (patternOf .standard .white 960).length ∧ (patternOf .standard .white 960).length ≤ 13 ∧ wordInstr .white 960 = some .mhw960
  decide

theorem mhw1024 : Statement .mhw1024 := by
  show 2 ≤ (patternOf .standard .white 1024).length ∧ (patternOf .standard .white 1024).length ≤ 13 ∧ wordInstr .white 1024 = some .mhw1024
  decide

theorem mhw1088 : Statement .mhw1088 := by
  show 2 ≤ (patternOf .standard .white 1088).length ∧ (patternOf .standard .white 1088).length ≤ 13 ∧ wordInstr .white 1088 = some .mhw1088
  decide

theorem mhw1152 : Statement .mhw1152 := by
  show 2 ≤ (patternOf .standard .white 1152).length ∧ (patternOf .standard .white 1152).length ≤ 13 ∧ wordInstr .white 1152 = some .mhw1152
  decide

theorem mhw1216 : Statement .mhw1216 := by
  show 2 ≤ (patternOf .standard .white 1216).length ∧ (patternOf .standard .white 1216).length ≤ 13 ∧ wordInstr .white 1216 = some .mhw1216
  decide

theorem mhw1280 : Statement .mhw1280 := by
  show 2 ≤ (patternOf .standard .white 1280).length ∧ (patternOf .standard .white 1280).length ≤ 13 ∧ wordInstr .white 1280 = some .mhw1280
  decide

theorem mhw1344 : Statement .mhw1344 := by
  show 2 ≤ (patternOf .standard .white 1344).length ∧ (patternOf .standard .white 1344).length ≤ 13 ∧ wordInstr .white 1344 = some .mhw1344
  decide

theorem mhw1408 : Statement .mhw1408 := by
  show 2 ≤ (patternOf .standard .white 1408).length ∧ (patternOf .standard .white 1408).length ≤ 13 ∧ wordInstr .white 1408 = some .mhw1408
  decide

theorem mhw1472 : Statement .mhw1472 := by
  show 2 ≤ (patternOf .standard .white 1472).length ∧ (patternOf .standard .white 1472).length ≤ 13 ∧ wordInstr .white 1472 = some .mhw1472
  decide

theorem mhw1536 : Statement .mhw1536 := by
  show 2 ≤ (patternOf .standard .white 1536).length ∧ (patternOf .standard .white 1536).length ≤ 13 ∧ wordInstr .white 1536 = some .mhw1536
  decide

theorem mhw1600 : Statement .mhw1600 := by
  show 2 ≤ (patternOf .standard .white 1600).length ∧ (patternOf .standard .white 1600).length ≤ 13 ∧ wordInstr .white 1600 = some .mhw1600
  decide

theorem mhw1664 : Statement .mhw1664 := by
  show 2 ≤ (patternOf .standard .white 1664).length ∧ (patternOf .standard .white 1664).length ≤ 13 ∧ wordInstr .white 1664 = some .mhw1664
  decide

theorem mhw1728 : Statement .mhw1728 := by
  show 2 ≤ (patternOf .standard .white 1728).length ∧ (patternOf .standard .white 1728).length ≤ 13 ∧ wordInstr .white 1728 = some .mhw1728
  decide

theorem mhw1792 : Statement .mhw1792 := by
  show 2 ≤ (patternOf .standard .white 1792).length ∧ (patternOf .standard .white 1792).length ≤ 13 ∧ wordInstr .white 1792 = some .mhw1792
  decide

theorem mhw1856 : Statement .mhw1856 := by
  show 2 ≤ (patternOf .standard .white 1856).length ∧ (patternOf .standard .white 1856).length ≤ 13 ∧ wordInstr .white 1856 = some .mhw1856
  decide

theorem mhw1920 : Statement .mhw1920 := by
  show 2 ≤ (patternOf .standard .white 1920).length ∧ (patternOf .standard .white 1920).length ≤ 13 ∧ wordInstr .white 1920 = some .mhw1920
  decide

theorem mhw1984 : Statement .mhw1984 := by
  show 2 ≤ (patternOf .standard .white 1984).length ∧ (patternOf .standard .white 1984).length ≤ 13 ∧ wordInstr .white 1984 = some .mhw1984
  decide

theorem mhw2048 : Statement .mhw2048 := by
  show 2 ≤ (patternOf .standard .white 2048).length ∧ (patternOf .standard .white 2048).length ≤ 13 ∧ wordInstr .white 2048 = some .mhw2048
  decide

theorem mhw2112 : Statement .mhw2112 := by
  show 2 ≤ (patternOf .standard .white 2112).length ∧ (patternOf .standard .white 2112).length ≤ 13 ∧ wordInstr .white 2112 = some .mhw2112
  decide

theorem mhw2176 : Statement .mhw2176 := by
  show 2 ≤ (patternOf .standard .white 2176).length ∧ (patternOf .standard .white 2176).length ≤ 13 ∧ wordInstr .white 2176 = some .mhw2176
  decide

theorem mhw2240 : Statement .mhw2240 := by
  show 2 ≤ (patternOf .standard .white 2240).length ∧ (patternOf .standard .white 2240).length ≤ 13 ∧ wordInstr .white 2240 = some .mhw2240
  decide

theorem mhw2304 : Statement .mhw2304 := by
  show 2 ≤ (patternOf .standard .white 2304).length ∧ (patternOf .standard .white 2304).length ≤ 13 ∧ wordInstr .white 2304 = some .mhw2304
  decide

theorem mhw2368 : Statement .mhw2368 := by
  show 2 ≤ (patternOf .standard .white 2368).length ∧ (patternOf .standard .white 2368).length ≤ 13 ∧ wordInstr .white 2368 = some .mhw2368
  decide

theorem mhw2432 : Statement .mhw2432 := by
  show 2 ≤ (patternOf .standard .white 2432).length ∧ (patternOf .standard .white 2432).length ≤ 13 ∧ wordInstr .white 2432 = some .mhw2432
  decide

theorem mhw2496 : Statement .mhw2496 := by
  show 2 ≤ (patternOf .standard .white 2496).length ∧ (patternOf .standard .white 2496).length ≤ 13 ∧ wordInstr .white 2496 = some .mhw2496
  decide

theorem mhw2560 : Statement .mhw2560 := by
  show 2 ≤ (patternOf .standard .white 2560).length ∧ (patternOf .standard .white 2560).length ≤ 13 ∧ wordInstr .white 2560 = some .mhw2560
  decide

theorem mhb0 : Statement .mhb0 := by
  show 2 ≤ (patternOf .standard .black 0).length ∧ (patternOf .standard .black 0).length ≤ 13 ∧ wordInstr .black 0 = some .mhb0
  decide

theorem mhb1 : Statement .mhb1 := by
  show 2 ≤ (patternOf .standard .black 1).length ∧ (patternOf .standard .black 1).length ≤ 13 ∧ wordInstr .black 1 = some .mhb1
  decide

theorem mhb2 : Statement .mhb2 := by
  show 2 ≤ (patternOf .standard .black 2).length ∧ (patternOf .standard .black 2).length ≤ 13 ∧ wordInstr .black 2 = some .mhb2
  decide

theorem mhb3 : Statement .mhb3 := by
  show 2 ≤ (patternOf .standard .black 3).length ∧ (patternOf .standard .black 3).length ≤ 13 ∧ wordInstr .black 3 = some .mhb3
  decide

theorem mhb4 : Statement .mhb4 := by
  show 2 ≤ (patternOf .standard .black 4).length ∧ (patternOf .standard .black 4).length ≤ 13 ∧ wordInstr .black 4 = some .mhb4
  decide

theorem mhb5 : Statement .mhb5 := by
  show 2 ≤ (patternOf .standard .black 5).length ∧ (patternOf .standard .black 5).length ≤ 13 ∧ wordInstr .black 5 = some .mhb5
  decide

theorem mhb6 : Statement .mhb6 := by
  show 2 ≤ (patternOf .standard .black 6).length ∧ (patternOf .standard .black 6).length ≤ 13 ∧ wordInstr .black 6 = some .mhb6
  decide

theorem mhb7 : Statement .mhb7 := by
  show 2 ≤ (patternOf .standard .black 7).length ∧ (patternOf .standard .black 7).length ≤ 13 ∧ wordInstr .black 7 = some .mhb7
  decide

theorem mhb8 : Statement .mhb8 := by
  show 2 ≤ (patternOf .standard .black 8).length ∧ (patternOf .standard .black 8).length ≤ 13 ∧ wordInstr .black 8 = some .mhb8
  decide

theorem mhb9 : Statement .mhb9 := by
  show 2 ≤ (patternOf .standard .black 9).length ∧ (patternOf .standard .black 9).length ≤ 13 ∧ wordInstr .black 9 = some .mhb9
  decide

theorem mhb10 : Statement .mhb10 := by
  show 2 ≤ (patternOf .standard .black 10).length ∧ (patternOf .standard .black 10).length ≤ 13 ∧ wordInstr .black 10 = some .mhb10
  decide

theorem mhb11 : Statement .mhb11 := by
  show 2 ≤ (patternOf .standard .black 11).length ∧ (patternOf .standard .black 11).length ≤ 13 ∧ wordInstr .black 11 = some .mhb11
  decide

theorem mhb12 : Statement .mhb12 := by
  show 2 ≤ (patternOf .standard .black 12).length ∧ (patternOf .standard .black 12).length ≤ 13 ∧ wordInstr .black 12 = some .mhb12
  decide

theorem mhb13 : Statement .mhb13 := by
  show 2 ≤ (patternOf .standard .black 13).length ∧ (patternOf .standard .black 13).length ≤ 13 ∧ wordInstr .black 13 = some .mhb13
  decide

theorem mhb14 : Statement .mhb14 := by
  show 2 ≤ (patternOf .standard .black 14).length ∧ (patternOf .standard .black 14).length ≤ 13 ∧ wordInstr .black 14 = some .mhb14
  decide

theorem mhb15 : Statement .mhb15 := by
  show 2 ≤ (patternOf .standard .black 15).length ∧ (patternOf .standard .black 15).length ≤ 13 ∧ wordInstr .black 15 = some .mhb15
  decide

theorem mhb16 : Statement .mhb16 := by
  show 2 ≤ (patternOf .standard .black 16).length ∧ (patternOf .standard .black 16).length ≤ 13 ∧ wordInstr .black 16 = some .mhb16
  decide

theorem mhb17 : Statement .mhb17 := by
  show 2 ≤ (patternOf .standard .black 17).length ∧ (patternOf .standard .black 17).length ≤ 13 ∧ wordInstr .black 17 = some .mhb17
  decide

theorem mhb18 : Statement .mhb18 := by
  show 2 ≤ (patternOf .standard .black 18).length ∧ (patternOf .standard .black 18).length ≤ 13 ∧ wordInstr .black 18 = some .mhb18
  decide

theorem mhb19 : Statement .mhb19 := by
  show 2 ≤ (patternOf .standard .black 19).length ∧ (patternOf .standard .black 19).length ≤ 13 ∧ wordInstr .black 19 = some .mhb19
  decide

theorem mhb20 : Statement .mhb20 := by
  show 2 ≤ (patternOf .standard .black 20).length ∧ (patternOf .standard .black 20).length ≤ 13 ∧ wordInstr .black 20 = some .mhb20
  decide

theorem mhb21 : Statement .mhb21 := by
  show 2 ≤ (patternOf .standard .black 21).length ∧ (patternOf .standard .black 21).length ≤ 13 ∧ wordInstr .black 21 = some .mhb21
  decide

theorem mhb22 : Statement .mhb22 := by
  show 2 ≤ (patternOf .standard .black 22).length ∧ (patternOf .standard .black 22).length ≤ 13 ∧ wordInstr .black 22 = some .mhb22
  decide

theorem mhb23 : Statement .mhb23 := by
  show 2 ≤ (patternOf .standard .black 23).length ∧ (patternOf .standard .black 23).length ≤ 13 ∧ wordInstr .black 23 = some .mhb23
  decide

theorem mhb24 : Statement .mhb24 := by
  show 2 ≤ (patternOf .standard .black 24).length ∧ (patternOf .standard .black 24).length ≤ 13 ∧ wordInstr .black 24 = some .mhb24
  decide

theorem mhb25 : Statement .mhb25 := by
  show 2 ≤ (patternOf .standard .black 25).length ∧ (patternOf .standard .black 25).length ≤ 13 ∧ wordInstr .black 25 = some .mhb25
  decide

theorem mhb26 : Statement .mhb26 := by
  show 2 ≤ (patternOf .standard .black 26).length ∧ (patternOf .standard .black 26).length ≤ 13 ∧ wordInstr .black 26 = some .mhb26
  decide

theorem mhb27 : Statement .mhb27 := by
  show 2 ≤ (patternOf .standard .black 27).length ∧ (patternOf .standard .black 27).length ≤ 13 ∧ wordInstr .black 27 = some .mhb27
  decide

theorem mhb28 : Statement .mhb28 := by
  show 2 ≤ (patternOf .standard .black 28).length ∧ (patternOf .standard .black 28).length ≤ 13 ∧ wordInstr .black 28 = some .mhb28
  decide

theorem mhb29 : Statement .mhb29 := by
  show 2 ≤ (patternOf .standard .black 29).length ∧ (patternOf .standard .black 29).length ≤ 13 ∧ wordInstr .black 29 = some .mhb29
  decide

theorem mhb30 : Statement .mhb30 := by
  show 2 ≤ (patternOf .standard .black 30).length ∧ (patternOf .standard .black 30).length ≤ 13 ∧ wordInstr .black 30 = some .mhb30
  decide

theorem mhb31 : Statement .mhb31 := by
  show 2 ≤ (patternOf .standard .black 31).length ∧ (patternOf .standard .black 31).length ≤ 13 ∧ wordInstr .black 31 = some .mhb31
  decide

theorem mhb32 : Statement .mhb32 := by
  show 2 ≤ (patternOf .standard .black 32).length ∧ (patternOf .standard .black 32).length ≤ 13 ∧ wordInstr .black 32 = some .mhb32
  decide

theorem mhb33 : Statement .mhb33 := by
  show 2 ≤ (patternOf .standard .black 33).length ∧ (patternOf .standard .black 33).length ≤ 13 ∧ wordInstr .black 33 = some .mhb33
  decide

theorem mhb34 : Statement .mhb34 := by
  show 2 ≤ (patternOf .standard .black 34).length ∧ (patternOf .standard .black 34).length ≤ 13 ∧ wordInstr .black 34 = some .mhb34
  decide

theorem mhb35 : Statement .mhb35 := by
  show 2 ≤ (patternOf .standard .black 35).length ∧ (patternOf .standard .black 35).length ≤ 13 ∧ wordInstr .black 35 = some .mhb35
  decide

theorem mhb36 : Statement .mhb36 := by
  show 2 ≤ (patternOf .standard .black 36).length ∧ (patternOf .standard .black 36).length ≤ 13 ∧ wordInstr .black 36 = some .mhb36
  decide

theorem mhb37 : Statement .mhb37 := by
  show 2 ≤ (patternOf .standard .black 37).length ∧ (patternOf .standard .black 37).length ≤ 13 ∧ wordInstr .black 37 = some .mhb37
  decide

theorem mhb38 : Statement .mhb38 := by
  show 2 ≤ (patternOf .standard .black 38).length ∧ (patternOf .standard .black 38).length ≤ 13 ∧ wordInstr .black 38 = some .mhb38
  decide

theorem mhb39 : Statement .mhb39 := by
  show 2 ≤ (patternOf .standard .black 39).length ∧ (patternOf .standard .black 39).length ≤ 13 ∧ wordInstr .black 39 = some .mhb39
  decide

theorem mhb40 : Statement .mhb40 := by
  show 2 ≤ (patternOf .standard .black 40).length ∧ (patternOf .standard .black 40).length ≤ 13 ∧ wordInstr .black 40 = some .mhb40
  decide

theorem mhb41 : Statement .mhb41 := by
  show 2 ≤ (patternOf .standard .black 41).length ∧ (patternOf .standard .black 41).length ≤ 13 ∧ wordInstr .black 41 = some .mhb41
  decide

theorem mhb42 : Statement .mhb42 := by
  show 2 ≤ (patternOf .standard .black 42).length ∧ (patternOf .standard .black 42).length ≤ 13 ∧ wordInstr .black 42 = some .mhb42
  decide

theorem mhb43 : Statement .mhb43 := by
  show 2 ≤ (patternOf .standard .black 43).length ∧ (patternOf .standard .black 43).length ≤ 13 ∧ wordInstr .black 43 = some .mhb43
  decide

theorem mhb44 : Statement .mhb44 := by
  show 2 ≤ (patternOf .standard .black 44).length ∧ (patternOf .standard .black 44).length ≤ 13 ∧ wordInstr .black 44 = some .mhb44
  decide

theorem mhb45 : Statement .mhb45 := by
  show 2 ≤ (patternOf .standard .black 45).length ∧ (patternOf .standard .black 45).length ≤ 13 ∧ wordInstr .black 45 = some .mhb45
  decide

theorem mhb46 : Statement .mhb46 := by
  show 2 ≤ (patternOf .standard .black 46).length ∧ (patternOf .standard .black 46).length ≤ 13 ∧ wordInstr .black 46 = some .mhb46
  decide

theorem mhb47 : Statement .mhb47 := by
  show 2 ≤ (patternOf .standard .black 47).length ∧ (patternOf .standard .black 47).length ≤ 13 ∧ wordInstr .black 47 = some .mhb47
  decide

theorem mhb48 : Statement .mhb48 := by
  show 2 ≤ (patternOf .standard .black 48).length ∧ (patternOf .standard .black 48).length ≤ 13 ∧ wordInstr .black 48 = some .mhb48
  decide

theorem mhb49 : Statement .mhb49 := by
  show 2 ≤ (patternOf .standard .black 49).length ∧ (patternOf .standard .black 49).length ≤ 13 ∧ wordInstr .black 49 = some .mhb49
  decide

theorem mhb50 : Statement .mhb50 := by
  show 2 ≤ (patternOf .standard .black 50).length ∧ (patternOf .standard .black 50).length ≤ 13 ∧ wordInstr .black 50 = some .mhb50
  decide

theorem mhb51 : Statement .mhb51 := by
  show 2 ≤ (patternOf .standard .black 51).length ∧ (patternOf .standard .black 51).length ≤ 13 ∧ wordInstr .black 51 = some .mhb51
  decide

theorem mhb52 : Statement .mhb52 := by
  show 2 ≤ (patternOf .standard .black 52).length ∧ (patternOf .standard .black 52).length ≤ 13 ∧ wordInstr .black 52 = some .mhb52
  decide

theorem mhb53 : Statement .mhb53 := by
  show 2 ≤ (patternOf .standard .black 53).length ∧ (patternOf .standard .black 53).length ≤ 13 ∧ wordInstr .black 53 = some .mhb53
  decide

theorem mhb54 : Statement .mhb54 := by
  show 2 ≤ (patternOf .standard .black 54).length ∧ (patternOf .standard .black 54).length ≤ 13 ∧ wordInstr .black 54 = some .mhb54
  decide

theorem mhb55 : Statement .mhb55 := by
  show 2 ≤ (patternOf .standard .black 55).length ∧ (patternOf .standard .black 55).length ≤ 13 ∧ wordInstr .black 55 = some .mhb55
  decide

theorem mhb56 : Statement .mhb56 := by
  show 2 ≤ (patternOf .standard .black 56).length ∧ (patternOf .standard .black 56).length ≤ 13 ∧ wordInstr .black 56 = some .mhb56
  decide

theorem mhb57 : Statement .mhb57 := by
  show 2 ≤ (patternOf .standard .black 57).length ∧ (patternOf .standard .black 57).length ≤ 13 ∧ wordInstr .black 57 = some .mhb57
  decide

theorem mhb58 : Statement .mhb58 := by
  show 2 ≤ (patternOf .standard .black 58).length ∧ (patternOf .standard .black 58).length ≤ 13 ∧ wordInstr .black 58 = some .mhb58
  decide

theorem mhb59 : Statement .mhb59 := by
  show 2 ≤ (patternOf .standard .black 59).length ∧ (patternOf .standard .black 59).length ≤ 13 ∧ wordInstr .black 59 = some .mhb59
  decide

theorem mhb60 : Statement .mhb60 := by
  show 2 ≤ (patternOf .standard .black 60).length ∧ (patternOf .standard .black 60).length ≤ 13 ∧ wordInstr .black 60 = some .mhb60
  decide

theorem mhb61 : Statement .mhb61 := by
  show 2 ≤ (patternOf .standard .black 61).length ∧ (patternOf .standard .black 61).length ≤ 13 ∧ wordInstr .black 61 = some .mhb61
  decide

theorem mhb62 : Statement .mhb62 := by
  show 2 ≤ (patternOf .standard .black 62).length ∧ (patternOf .standard .black 62).length ≤ 13 ∧ wordInstr .black 62 = some .mhb62
  decide

theorem mhb63 : Statement .mhb63 := by
  show 2 ≤ (patternOf .standard .black 63).length ∧ (patternOf .standard .black 63).length ≤ 13 ∧ wordInstr .black 63 = some .mhb63
  decide

theorem mhb64 : Statement .mhb64 := by
  show 2 ≤ (patternOf .standard .black 64).length ∧ (patternOf .standard .black 64).length ≤ 13 ∧ wordInstr .black 64 = some .mhb64
  decide

theorem mhb128 : Statement .mhb128 := by
  show 2 ≤ (patternOf .standard .black 128).length ∧ (patternOf .standard .black 128).length ≤ 13 ∧ wordInstr .black 128 = some .mhb128
  decide

theorem mhb192 : Statement .mhb192 := by
  show 2 ≤ (patternOf .standard .black 192).length ∧ (patternOf .standard .black 192).length ≤ 13 ∧ wordInstr .black 192 = some .mhb192
  decide

theorem mhb256 : Statement .mhb256 := by
  show 2 ≤ (patternOf .standard .black 256).length ∧ (patternOf .standard .black 256).length ≤ 13 ∧ wordInstr .black 256 = some .mhb256
  decide

theorem mhb320 : Statement .mhb320 := by
  show 2 ≤ (patternOf .standard .black 320).length ∧ (patternOf .standard .black 320).length ≤ 13 ∧ wordInstr .black 320 = some .mhb320
  decide

theorem mhb384 : Statement .mhb384 := by
  show 2 ≤ (patternOf .standard .black 384).length ∧ (patternOf .standard .black 384).length ≤ 13 ∧ wordInstr .black 384 = some .mhb384
  decide

theorem mhb448 : Statement .mhb448 := by
  show 2 ≤ (patternOf .standard .black 448).length ∧ (patternOf .standard .black 448).length ≤ 13 ∧ wordInstr .black 448 = some .mhb448
  decide

theorem mhb512 : Statement .mhb512 := by
  show 2 ≤ (patternOf .standard .black 512).length ∧ (patternOf .standard .black 512).length ≤ 13 ∧ wordInstr .black 512 = some .mhb512
  decide

theorem mhb576 : Statement .mhb576 := by
  show 2 ≤ (patternOf .standard .black 576).length ∧ (patternOf .standard .black 576).length ≤ 13 ∧ wordInstr .black 576 = some .mhb576
  decide

theorem mhb640 : Statement .mhb640 := by
  show 2 ≤ (patternOf .standard .black 640).length ∧ (patternOf .standard .black 640).length ≤ 13 ∧ wordInstr .black 640 = some .mhb640
  decide

theorem mhb704 : Statement .mhb704 := by
  show 2 ≤ (patternOf .standard .black 704).length ∧ (patternOf .standard .black 704).length ≤ 13 ∧ wordInstr .black 704 = some .mhb704
  decide

theorem mhb768 : Statement .mhb768 := by
  show 2 ≤ (patternOf .standard .black 768).length ∧ (patternOf .standard .black 768).length ≤ 13 ∧ wordInstr .black 768 = some .mhb768
  decide

theorem mhb832 : Statement .mhb832 := by
  show 2 ≤ (patternOf .standard .black 832).length ∧ (patternOf .standard .black 832).length ≤ 13 ∧ wordInstr .black 832 = some .mhb832
  decide

theorem mhb896 : Statement .mhb896 := by
  show 2 ≤ (patternOf .standard .black 896).length ∧ (patternOf .standard .black 896).length ≤ 13 ∧ wordInstr .black 896 = some .mhb896
  decide

theorem mhb960 : Statement .mhb960 := by
  show 2 ≤ (patternOf .standard .black 960).length ∧ (patternOf .standard .black 960).length ≤ 13 ∧ wordInstr .black 960 = some .mhb960
  decide

theorem mhb1024 : Statement .mhb1024 := by
  show 2 ≤ (patternOf .standard .black 1024).length ∧ (patternOf .standard .black 1024).length ≤ 13 ∧ wordInstr .black 1024 = some .mhb1024
  decide

theorem mhb1088 : Statement .mhb1088 := by
  show 2 ≤ (patternOf .standard .black 1088).length ∧ (patternOf .standard .black 1088).length ≤ 13 ∧ wordInstr .black 1088 = some .mhb1088
  decide

theorem mhb1152 : Statement .mhb1152 := by
  show 2 ≤ (patternOf .standard .black 1152).length ∧ (patternOf .standard .black 1152).length ≤ 13 ∧ wordInstr .black 1152 = some .mhb1152
  decide

theorem mhb1216 : Statement .mhb1216 := by
  show 2 ≤ (patternOf .standard .black 1216).length ∧ (patternOf .standard .black 1216).length ≤ 13 ∧ wordInstr .black 1216 = some .mhb1216
  decide

theorem mhb1280 : Statement .mhb1280 := by
  show 2 ≤ (patternOf .standard .black 1280).length ∧ (patternOf .standard .black 1280).length ≤ 13 ∧ wordInstr .black 1280 = some .mhb1280
  decide

theorem mhb1344 : Statement .mhb1344 := by
  show 2 ≤ (patternOf .standard .black 1344).length ∧ (patternOf .standard .black 1344).length ≤ 13 ∧ wordInstr .black 1344 = some .mhb1344
  decide

theorem mhb1408 : Statement .mhb1408 := by
  show 2 ≤ (patternOf .standard .black 1408).length ∧ (patternOf .standard .black 1408).length ≤ 13 ∧ wordInstr .black 1408 = some .mhb1408
  decide

theorem mhb1472 : Statement .mhb1472 := by
  show 2 ≤ (patternOf .standard .black 1472).length ∧ (patternOf .standard .black 1472).length ≤ 13 ∧ wordInstr .black 1472 = some .mhb1472
  decide

theorem mhb1536 : Statement .mhb1536 := by
  show 2 ≤ (patternOf .standard .black 1536).length ∧ (patternOf .standard .black 1536).length ≤ 13 ∧ wordInstr .black 1536 = some .mhb1536
  decide

theorem mhb1600 : Statement .mhb1600 := by
  show 2 ≤ (patternOf .standard .black 1600).length ∧ (patternOf .standard .black 1600).length ≤ 13 ∧ wordInstr .black 1600 = some .mhb1600
  decide

theorem mhb1664 : Statement .mhb1664 := by
  show 2 ≤ (patternOf .standard .black 1664).length ∧ (patternOf .standard .black 1664).length ≤ 13 ∧ wordInstr .black 1664 = some .mhb1664
  decide

theorem mhb1728 : Statement .mhb1728 := by
  show 2 ≤ (patternOf .standard .black 1728).length ∧ (patternOf .standard .black 1728).length ≤ 13 ∧ wordInstr .black 1728 = some .mhb1728
  decide

theorem mhb1792 : Statement .mhb1792 := by
  show 2 ≤ (patternOf .standard .black 1792).length ∧ (patternOf .standard .black 1792).length ≤ 13 ∧ wordInstr .black 1792 = some .mhb1792
  decide

theorem mhb1856 : Statement .mhb1856 := by
  show 2 ≤ (patternOf .standard .black 1856).length ∧ (patternOf .standard .black 1856).length ≤ 13 ∧ wordInstr .black 1856 = some .mhb1856
  decide

theorem mhb1920 : Statement .mhb1920 := by
  show 2 ≤ (patternOf .standard .black 1920).length ∧ (patternOf .standard .black 1920).length ≤ 13 ∧ wordInstr .black 1920 = some .mhb1920
  decide

theorem mhb1984 : Statement .mhb1984 := by
  show 2 ≤ (patternOf .standard .black 1984).length ∧ (patternOf .standard .black 1984).length ≤ 13 ∧ wordInstr .black 1984 = some .mhb1984
  decide

theorem mhb2048 : Statement .mhb2048 := by
  show 2 ≤ (patternOf .standard .black 2048).length ∧ (patternOf .standard .black 2048).length ≤ 13 ∧ wordInstr .black 2048 = some .mhb2048
  decide

theorem mhb2112 : Statement .mhb2112 := by
  show 2 ≤ (patternOf .standard .black 2112).length ∧ (patternOf .standard .black 2112).length ≤ 13 ∧ wordInstr .black 2112 = some .mhb2112
  decide

theorem mhb2176 : Statement .mhb2176 := by
  show 2 ≤ (patternOf .standard .black 2176).length ∧ (patternOf .standard .black 2176).length ≤ 13 ∧ wordInstr .black 2176 = some .mhb2176
  decide

theorem mhb2240 : Statement .mhb2240 := by
  show 2 ≤ (patternOf .standard .black 2240).length ∧ (patternOf .standard .black 2240).length ≤ 13 ∧ wordInstr .black 2240 = some .mhb2240
  decide

theorem mhb2304 : Statement .mhb2304 := by
  show 2 ≤ (patternOf .standard .black 2304).length ∧ (patternOf .standard .black 2304).length ≤ 13 ∧ wordInstr .black 2304 = some .mhb2304
  decide

theorem mhb2368 : Statement .mhb2368 := by
  show 2 ≤ (patternOf .standard .black 2368).length ∧ (patternOf .standard .black 2368).length ≤ 13 ∧ wordInstr .black 2368 = some .mhb2368
  decide

theorem mhb2432 : Statement .mhb2432 := by
  show 2 ≤ (patternOf .standard .black 2432).length ∧ (patternOf .standard .black 2432).length ≤ 13 ∧ wordInstr .black 2432 = some .mhb2432
  decide

theorem mhb2496 : Statement .mhb2496 := by
  show 2 ≤ (patternOf .standard .black 2496).length ∧ (patternOf .standard .black 2496).length ≤ 13 ∧ wordInstr .black 2496 = some .mhb2496
  decide

theorem mhb2560 : Statement .mhb2560 := by
  show 2 ≤ (patternOf .standard .black 2560).length ∧ (patternOf .standard .black 2560).length ≤ 13 ∧ wordInstr .black 2560 = some .mhb2560
  decide

end Sys2Proof.Laws.EncodingShape
end

