-- ==== Sys2Proof/Laws/Rom.lean ====
section
/-! SUPPORT. The ROMs: what an entry is, a walk through an image is a walk through its trie (spec 42_huffman R196), and what
entering a row does to the leaves of a trie (R193). -/

namespace Sys2Proof.Machine
open Sys2Proof

/-! ### Tables -/

/-- The default tables are tables from which hardware can be built (spec 31_code_tables R122, 42_huffman R194). -/
theorem standard_wellFormed : tablesWellFormed .standard = true := by decide +kernel

/-- Each table of a well-formed build is well-formed. -/
theorem tableWellFormed_of_tables {tables : CodeTables} (h : tablesWellFormed tables = true) (c : Color) :
    tableWellFormed (codeTable tables c) = true := by
  simp only [tablesWellFormed, Bool.and_eq_true] at h
  cases c
  · exact h.1
  · exact h.2

/-- A table of a well-formed build has exactly one entry for each run length, which `codeRow?` finds (spec
31_code_tables R120). -/
theorem codeRow?_of_mem {tables : CodeTables} {c : Color} (h : tablesWellFormed tables = true) {r : CodeRow}
    (hr : r ∈ codeTable tables c) : codeRow? tables c r.run = some r := by
  have hw := tableWellFormed_of_tables h c
  simp only [tableWellFormed, tableRunsComplete, Bool.and_eq_true, decide_eq_true_eq] at hw
  have hn := hw.1.2.2
  unfold codeRow?
  generalize codeTable tables c = rows at hr hn
  induction rows with
  | nil => cases hr
  | cons q rs ih =>
    simp only [List.map_cons, List.nodup_cons] at hn
    rcases List.mem_cons.1 hr with rfl | hm
    · simp
    · have hne : q.run ≠ r.run := fun he => hn.1 (he ▸ List.mem_map_of_mem hm)
      rw [List.find?_cons_of_neg (by simpa using hne)]
      exact ih hm hn.2

/-- A well-formed build has a ROM for each colour (spec 10_state R46). -/
theorem rom_isSome {tables : CodeTables} (h : tablesWellFormed tables = true) (c : Color) :
    (rom tables c).isSome = true := by
  cases tables with
  | standard => cases c <;> rfl
  | configured white black =>
    have hw := tableWellFormed_of_tables h c
    simp only [tableWellFormed, tableHasRom, Bool.and_eq_true] at hw
    cases c <;> exact hw.2

/-! ### Entries -/

theorem fitsRomEntry_iff (e : Int) : fitsRomEntry e = true ↔ -2 ^ 15 ≤ e ∧ e < 2 ^ 15 := by
  simp [fitsRomEntry]

/-- A leaf's entry (spec 30_encoding R113). -/
theorem classify_leaf (i v : Nat) (h : fitsRomEntry (Int.negSucc v) = true) :
    classify i (BitVec.ofInt 16 (Int.negSucc v)) = .leaf v := by
  have hv : v < 2 ^ 15 := by have := (fitsRomEntry_iff _).1 h; omega
  have hn : (BitVec.ofInt 16 (Int.negSucc v)).toNat = 2 ^ 16 - 1 - v := by
    rw [BitVec.toNat_ofInt]; omega
  have hm : (BitVec.ofInt 16 (Int.negSucc v)).msb = true := by
    rw [BitVec.msb_eq_decide, hn]; simp only [decide_eq_true_eq]; omega
  have hr : 2 ^ 16 - 1 - (2 ^ 16 - 1 - v) = v := by omega
  rw [classify, hm, if_pos rfl, BitVec.toNat_not, hn, hr]

/-- An absent node's entry (spec 30_encoding R115). -/
theorem classify_absent (i : Nat) : classify i (BitVec.ofInt 16 0) = .absent := rfl

theorem toNat_ofInt_index {j : Nat} (h : fitsRomEntry (j : Int) = true) :
    (BitVec.ofInt 16 (j : Int)).toNat = j := by
  have := (fitsRomEntry_iff _).1 h
  rw [BitVec.toNat_ofInt]; omega

/-- An internal node's entry (spec 30_encoding R114). -/
theorem classify_node (i : Nat) {j : Nat} (h : fitsRomEntry (j : Int) = true) (hj : 0 < j) :
    classify i (BitVec.ofInt 16 (j : Int)) = .node i := by
  have hn := toNat_ofInt_index h
  have hlt := ((fitsRomEntry_iff _).1 h).2
  have hm : (BitVec.ofInt 16 (j : Int)).msb = false := by
    rw [BitVec.msb_eq_decide, hn]; simp only [decide_eq_false_iff_not]; omega
  have hz : BitVec.ofInt 16 (j : Int) ≠ 0 := by
    intro h0; rw [h0] at hn; simp at hn; omega
  rw [classify, hm, if_neg (by decide), if_neg hz]

/-! ### A walk through the trie -/

/-- One walk through a trie from one of its internal nodes (spec 42_huffman R203 on R192). -/
def Trie.walkFrom : Trie → Nat → List Bool → WalkEnd
  | _, used, [] => .endOfInput used
  | .node c0 c1, used, bit :: rest =>
    match (if bit then c1 else c0) with
    | .absent => .noPath (used + 1)
    | .leaf v => .leaf v (used + 1)
    | .node d0 d1 => Trie.walkFrom (.node d0 d1) (used + 1) rest
  | _, used, _ :: _ => .noPath used

/-- The entries of a subtree stand in a ROM from index `base` on, and each fits. -/
def Stands (T : List RomEntry) (base : Nat) (t : Trie) : Prop :=
  (∀ e ∈ Trie.emit base t, fitsRomEntry e = true) ∧
  ∃ pre post, pre.length = base ∧ T = pre ++ (Trie.emit base t).map (BitVec.ofInt 16) ++ post

theorem stands_head {T : List RomEntry} {base : Nat} {t : Trie} (h : Stands T base t) {e : Int}
    {es : List Int} (he : Trie.emit base t = e :: es) :
    T.getD base 0 = BitVec.ofInt 16 e ∧ fitsRomEntry e = true := by
  obtain ⟨hf, pre, post, hp, rfl⟩ := h
  refine ⟨?_, hf e (by simp [he])⟩
  rw [he]
  simp [List.getD_eq_getElem?_getD, hp]

theorem stands_left {T : List RomEntry} {base : Nat} {c0 c1 : Trie} (h : Stands T base (.node c0 c1)) :
    Stands T (base + 1) c0 := by
  obtain ⟨hf, pre, post, hp, rfl⟩ := h
  refine ⟨fun e he => hf e (by simp [Trie.emit, he]), ?_⟩
  refine ⟨pre ++ [BitVec.ofInt 16 ((base + 1 + (Trie.emit (base + 1) c0).length : Nat) : Int)],
    (Trie.emit (base + 1 + (Trie.emit (base + 1) c0).length) c1).map (BitVec.ofInt 16) ++ post,
    by simp [hp], by simp [Trie.emit]⟩

theorem stands_right {T : List RomEntry} {base : Nat} {c0 c1 : Trie} (h : Stands T base (.node c0 c1)) :
    Stands T (base + 1 + (Trie.emit (base + 1) c0).length) c1 := by
  obtain ⟨hf, pre, post, hp, rfl⟩ := h
  refine ⟨fun e he => hf e (by simp [Trie.emit, he]), ?_⟩
  refine ⟨pre ++ BitVec.ofInt 16 ((base + 1 + (Trie.emit (base + 1) c0).length : Nat) : Int) ::
      (Trie.emit (base + 1) c0).map (BitVec.ofInt 16), post, by simp [hp]; omega, by simp [Trie.emit]⟩

/-- The edge to a subtree whose first entry stands at index `base`. -/
def Trie.edge (base : Nat) : Trie → Edge
  | .absent => .absent
  | .leaf v => .leaf v
  | .node _ _ => .node base

/-- What the entry of a subtree says of it. -/
theorem classify_stands {T : List RomEntry} {base : Nat} {t : Trie} (h : Stands T base t) :
    classify base (T.getD base 0) = t.edge base := by
  cases t with
  | absent =>
    have := (stands_head h (e := 0) (es := []) rfl).1
    rw [this]; exact classify_absent base
  | leaf v =>
    obtain ⟨he, hf⟩ := stands_head h (e := Int.negSucc v) (es := []) rfl
    rw [he]; exact classify_leaf base v hf
  | node c0 c1 =>
    obtain ⟨he, hf⟩ := stands_head h (by rw [Trie.emit])
    rw [he]; exact classify_node base hf (by omega)

/-- One lookup step is one edge of the trie (spec 42_huffman R196). -/
theorem lookupStep_stands {T : List RomEntry} {base : Nat} {c0 c1 : Trie} (bit : Bool)
    (h : Stands T base (.node c0 c1)) :
    ∃ next, Stands T next (if bit then c1 else c0) ∧
      lookupStep T base bit = (if bit then c1 else c0).edge next := by
  cases bit with
  | false =>
    have hs := stands_left h
    refine ⟨base + 1, hs, ?_⟩
    simpa [lookupStep] using classify_stands hs
  | true =>
    have hs := stands_right h
    refine ⟨_, hs, ?_⟩
    obtain ⟨he, hf⟩ := stands_head h (by rw [Trie.emit])
    have hi : (T.getD base 0).toNat = base + 1 + (Trie.emit (base + 1) c0).length := by
      rw [he]; exact toNat_ofInt_index hf
    simpa only [lookupStep, hi, if_true] using classify_stands hs

/-- A walk through an image is a walk through its trie (spec 42_huffman R196). -/
theorem walkFrom_stands {T : List RomEntry} {base : Nat} {c0 c1 : Trie} (used : Nat) (bits : List Bool)
    (h : Stands T base (.node c0 c1)) :
    walkFrom T base used bits = (Trie.node c0 c1).walkFrom used bits := by
  induction bits generalizing base c0 c1 used with
  | nil => rfl
  | cons bit rest ih =>
    obtain ⟨next, hs, hl⟩ := lookupStep_stands bit h
    rw [walkFrom, Trie.walkFrom, hl]
    cases ht : (if bit then c1 else c0) with
    | absent => rfl
    | leaf v => rfl
    | node d0 d1 =>
      rw [ht] at hs
      exact ih (used + 1) hs

/-- The same from the root of an image (spec 42_huffman R196). -/
theorem walk_image {T : List RomEntry} {c0 c1 : Trie} (bits : List Bool)
    (h : (Trie.node c0 c1).image = some T) : walk T bits = (Trie.node c0 c1).walkFrom 0 bits := by
  unfold Trie.image at h
  split at h
  · rename_i hf
    refine walkFrom_stands 0 bits ⟨fun e he => List.all_eq_true.1 hf e he, [], [], rfl, ?_⟩
    cases h
    simp
  · cases h

/-! ### The leaves of a trie -/

/-- The run length of the leaf at the end of a path. -/
def Trie.leafAt : Trie → List Bool → Option Nat
  | .leaf v, [] => some v
  | .node c0 c1, b :: bs => Trie.leafAt (if b then c1 else c0) bs
  | _, _ => none

@[simp] theorem leafAt_absent (q : List Bool) : Trie.absent.leafAt q = none := by
  cases q <;> rfl

/-- Entering a row adds one leaf and keeps the others (spec 42_huffman R193). -/
theorem leafAt_insert {t t' : Trie} {p : List Bool} {v : Nat} (h : t.insert p v = some t') (q : List Bool)
    (w : Nat) : t'.leafAt q = some w ↔ t.leafAt q = some w ∨ (q = p ∧ w = v) := by
  induction p generalizing t t' q with
  | nil =>
    cases t with
    | absent =>
      cases h
      cases q with
      | nil => simp [Trie.leafAt, eq_comm]
      | cons b bs => simp [Trie.leafAt]
    | leaf u => cases h
    | node c0 c1 => cases h
  | cons b bs ih =>
    cases t with
    | leaf u => cases b <;> cases h
    | absent =>
      cases b <;>
        · simp only [Trie.insert, Option.map_eq_some_iff] at h
          obtain ⟨u, hu, rfl⟩ := h
          cases q with
          | nil => simp [Trie.leafAt]
          | cons b' bs' => cases b' <;> simp [Trie.leafAt, ih hu]
    | node c0 c1 =>
      cases b <;>
        · simp only [Trie.insert, Option.map_eq_some_iff] at h
          obtain ⟨u, hu, rfl⟩ := h
          cases q with
          | nil => simp [Trie.leafAt]
          | cons b' bs' => cases b' <;> simp [Trie.leafAt, ih hu]

/-- The leaves of the trie of a table are its rows (spec 42_huffman R192: every bit sequence in the table maps to
exactly one leaf). -/
theorem leafAt_insertAll {rows : List CodeRow} {t t' : Trie} (h : t.insertAll rows = some t') (q : List Bool)
    (w : Nat) : t'.leafAt q = some w ↔ t.leafAt q = some w ∨ ∃ r ∈ rows, r.pattern = q ∧ r.run = w := by
  induction rows generalizing t with
  | nil => cases h; simp
  | cons r rs ih =>
    simp only [Trie.insertAll, Option.bind_eq_some_iff] at h
    obtain ⟨u, hu, hr⟩ := h
    rw [ih hr, leafAt_insert hu]
    simp only [List.mem_cons, exists_eq_or_imp, or_assoc]
    constructor
    · rintro (h | ⟨rfl, rfl⟩ | h)
      · exact .inl h
      · exact .inr (.inl ⟨rfl, rfl⟩)
      · exact .inr (.inr h)
    · rintro (h | ⟨rfl, rfl⟩ | h)
      · exact .inl h
      · exact .inr (.inl ⟨rfl, rfl⟩)
      · exact .inr (.inr h)

end Sys2Proof.Machine
end

