-- ==== Sys2Proof/Tests/Slice0.lean ====
section
/-! SUPPORT. Tests. Expected values come from spec 95_test_vectors, 95_test_vectors_derived and opcode_table.json. In order: the
WellFormed smoke, decoding, one step of each instruction, and for each statement with hypotheses a witness that they can
all hold. -/

namespace Sys2Proof.Tests
open Sys2Proof Sys2Proof.Machine

-- One theorem after the other: many kernel evaluations at once would take many threads, and their memory.
set_option Elab.async false

/-! ### Helpers -/

/-- The response word of a step that answers. -/
def answered : Host.Outcome State Fault Refusal → Option (BitVec 48)
  | .next t => t.rsp.map Response.word
  | _ => none

/-- A projection of the next state. -/
def after {α : Type} (f : State → α) : Host.Outcome State Fault Refusal → Option α
  | .next t => some (f t)
  | _ => none

/-- Why the run was refused. -/
def refusal? : Host.Outcome State Fault Refusal → Option Refusal
  | .refused r => some r
  | _ => none

/-- Why the machine stopped. -/
def fault? : Host.Outcome State Fault Refusal → Option Fault
  | .fault r => some r
  | _ => none

/-- A step that answers, and what its next state shows. -/
theorem next_of_after {α : Type} {f : State → α} {o : Host.Outcome State Fault Refusal} {v : α}
    (h : after f o = some v) : ∃ t, o = .next t ∧ f t = v := by
  cases o with
  | next t => exact ⟨t, rfl, by simpa [after] using h⟩
  | fault e => simp [after] at h
  | refused e => simp [after] at h

/-- A step that answers. -/
theorem answers {o : Host.Outcome State Fault Refusal} (h : after (fun _ => true) o = some true) :
    ∃ t, o = .next t :=
  (next_of_after h).imp fun _ h => h.1

/-- The same, of the status and the operand of the response. -/
theorem response_of_after {o : Host.Outcome State Fault Refusal} {st : Status} {r : Word}
    (h : after (fun t => t.rsp.map fun p => (p.st, p.r)) o = some (some (st, r))) :
    ∃ t p, o = .next t ∧ t.rsp = some p ∧ p.st = st ∧ p.r = r := by
  obtain ⟨t, ht, hp⟩ := next_of_after h
  cases hr : t.rsp with
  | none => simp [hr] at hp
  | some p => exact ⟨t, p, ht, hr, by simpa [hr] using hp⟩

/-- Bytes from an address on, as a memory lists them. -/
def cells : Nat → List Byte → List Host.Cell
  | _, [] => []
  | a, b :: bs => (a, b) :: cells (a + 1) bs

/-- The instruction a decoder result holds. -/
def decoded? : Except DecodeError Instr → Option Instr
  | .ok i => some i
  | .error _ => none

/-- The error a decoder result holds. -/
def decodeError? : Except DecodeError Instr → Option DecodeError
  | .ok _ => none
  | .error e => some e

/-! ### WellFormed -/

theorem test_wellFormed_hline : (RawCommand.mk 0x11 0 0 0 0).wellFormed = true := by decide

/-- `op = 0x04` is none of the six (R93). -/
theorem test_illFormed_opcode :
    (RawCommand.mk 0x04 0 0 0 0).opcodeKnown = false ∧ (RawCommand.mk 0x04 0 0 0 0).wellFormed = false := by
  decide

/-- `HLINE` with `b = 1` (R91, R92). -/
theorem test_illFormed_reserved :
    (RawCommand.mk 0x11 0 0 0 1).reservedZero = false ∧ (RawCommand.mk 0x11 0 0 0 1).wellFormed = false := by
  decide

/-- `RESOLVE` with `kind = 3` (R97). -/
theorem test_illFormed_kind :
    (RawCommand.mk 0x01 3 8 0 0).kindLegal = false ∧ (RawCommand.mk 0x01 3 8 0 0).wellFormed = false := by
  decide

/-- `HNEXT` with `sel = 3` (R99). -/
theorem test_illFormed_sel :
    (RawCommand.mk 0x12 3 0 0 0).selLegal = false ∧ (RawCommand.mk 0x12 3 0 0 0).wellFormed = false := by
  decide

/-- No bands (R7). -/
theorem test_illFormed_params : (Params.mk 64 64 0 .ieee .standard).wellFormed = false := by decide

/-- The build of the vectors; a build with other parameters. -/
theorem test_wellFormed_params :
    Params.ofVectors.wellFormed = true ∧ (Params.mk 0 0 1 .configured .standard).wellFormed = true := by
  simp [Params.wellFormed, Params.ofVectors, standard_wellFormed]

/-- An empty pattern (R121). -/
theorem test_illFormed_emptyPattern :
    tablePatternsNonempty [⟨0, 0, 0⟩] = false ∧ tableWellFormed [⟨0, 0, 0⟩] = false := by decide

/-- A table without most run lengths (R120). -/
theorem test_illFormed_missingRun : tableRunsComplete [⟨0, 1, 0⟩] = false := by decide

/-- `1` begins `10` (R122), and the trie of such a table does not exist (R194). -/
theorem test_illFormed_prefix :
    tableHasRom [⟨0, 1, 0b1⟩, ⟨1, 2, 0b10⟩] = false ∧ buildTrie [⟨0, 1, 0b1⟩, ⟨1, 2, 0b10⟩] = none := by
  decide

/-- An entry of an image beyond 16 bits (R11, R112). -/
theorem test_illFormed_entry :
    fitsRomEntry 32768 = false ∧ buildRom [⟨32768, 1, 0⟩] = none ∧ (buildRom [⟨32767, 1, 0⟩]).isSome = true := by
  decide

/-- A build whose WHITE words are the BLACK ones of the default, and the other way round. -/
def swappedTables : CodeTables := .configured (codeTable .standard .black) (codeTable .standard .white)

theorem test_wellFormed_swapped : tablesWellFormed swappedTables = true :=
  (Bool.and_comm _ _).trans standard_wellFormed

/-- A build whose WHITE table collides (R194). -/
def collidingTables : CodeTables := .configured [⟨0, 1, 0b1⟩, ⟨1, 2, 0b10⟩] (codeTable .standard .black)

theorem test_illFormed_colliding : tablesWellFormed collidingTables = false := by decide +kernel

/-! ### Decoding of commands -/

theorem test_decode_resolve :
    decoded? (decodeCommand 0x010200400000000000000000) = some (.resolve .float 64) := by decide

theorem test_decode_pcreate :
    decoded? (decodeCommand 0x020500100000000200000002) = some (.pcreate .sint 16 .be 2 2) := by decide

theorem test_decode_preverse :
    decoded? (decodeCommand 0x03000000000000070000000A) = some (.preverse 7 10) := by decide

theorem test_decode_hregion :
    decoded? (decodeCommand 0x100000000000000300000001) = some (.hregion 3 1) := by decide

theorem test_decode_hline : decoded? (decodeCommand 0x110000000000000000000000) = some .hline := by decide

theorem test_decode_hnext :
    decoded? (decodeCommand 0x120000000000000000000000) = some (.hnext .w) ∧
    decoded? (decodeCommand 0x120100000000000000000000) = some (.hnext .b) ∧
    decoded? (decodeCommand 0x120200000000000000000000) = some (.hnext .cur) := by decide

/-- The four ways a command is illegal (R94). -/
theorem test_decode_illegal :
    decodeError? (decodeCommand 0) = some (.illegalOpcode 0) ∧
    decodeError? (decodeCommand 0x130000000000000000000000) = some (.illegalOpcode 0x13) ∧
    decodeError? (decodeCommand 0x011000080000000000000000) = some .reservedBits ∧
    decodeError? (decodeCommand 0x010300080000000000000000) = some .illegalKind ∧
    decodeError? (decodeCommand 0x120300000000000000000000) = some .illegalSel := by decide

/-! ### Decoding of code words

Every row of opcode_table.json: number of bits, pattern, instruction. -/

/-- The pattern, with a bit after it that is left alone, decodes to the instruction. -/
def readsAs (c : Color) (row : Nat × Nat × Instr) : Bool :=
  match decodeWord .standard c (toBits row.1 row.2.1 ++ [true]) with
  | .ok (i, used) => i = row.2.2 && used = row.1
  | .error _ => false

def rowsWhiteTerminating : List (Nat × Nat × Instr) :=
  [(8, 0b00110101, .mhw0), (6, 0b000111, .mhw1), (4, 0b0111, .mhw2), (4, 0b1000, .mhw3),
    (4, 0b1011, .mhw4), (4, 0b1100, .mhw5), (4, 0b1110, .mhw6), (4, 0b1111, .mhw7), (5, 0b10011, .mhw8),
    (5, 0b10100, .mhw9), (5, 0b00111, .mhw10), (5, 0b01000, .mhw11), (6, 0b001000, .mhw12),
    (6, 0b000011, .mhw13), (6, 0b110100, .mhw14), (6, 0b110101, .mhw15), (6, 0b101010, .mhw16),
    (6, 0b101011, .mhw17), (7, 0b0100111, .mhw18), (7, 0b0001100, .mhw19), (7, 0b0001000, .mhw20),
    (7, 0b0010111, .mhw21), (7, 0b0000011, .mhw22), (7, 0b0000100, .mhw23), (7, 0b0101000, .mhw24),
    (7, 0b0101011, .mhw25), (7, 0b0010011, .mhw26), (7, 0b0100100, .mhw27), (7, 0b0011000, .mhw28),
    (8, 0b00000010, .mhw29), (8, 0b00000011, .mhw30), (8, 0b00011010, .mhw31), (8, 0b00011011, .mhw32),
    (8, 0b00010010, .mhw33), (8, 0b00010011, .mhw34), (8, 0b00010100, .mhw35), (8, 0b00010101, .mhw36),
    (8, 0b00010110, .mhw37), (8, 0b00010111, .mhw38), (8, 0b00101000, .mhw39), (8, 0b00101001, .mhw40),
    (8, 0b00101010, .mhw41), (8, 0b00101011, .mhw42), (8, 0b00101100, .mhw43), (8, 0b00101101, .mhw44),
    (8, 0b00000100, .mhw45), (8, 0b00000101, .mhw46), (8, 0b00001010, .mhw47), (8, 0b00001011, .mhw48),
    (8, 0b01010010, .mhw49), (8, 0b01010011, .mhw50), (8, 0b01010100, .mhw51), (8, 0b01010101, .mhw52),
    (8, 0b00100100, .mhw53), (8, 0b00100101, .mhw54), (8, 0b01011000, .mhw55), (8, 0b01011001, .mhw56),
    (8, 0b01011010, .mhw57), (8, 0b01011011, .mhw58), (8, 0b01001010, .mhw59), (8, 0b01001011, .mhw60),
    (8, 0b00110010, .mhw61), (8, 0b00110011, .mhw62), (8, 0b00110100, .mhw63)]

def rowsWhiteMakeup : List (Nat × Nat × Instr) :=
  [(5, 0b11011, .mhw64), (5, 0b10010, .mhw128), (6, 0b010111, .mhw192), (7, 0b0110111, .mhw256),
    (8, 0b00110110, .mhw320), (8, 0b00110111, .mhw384), (8, 0b01100100, .mhw448), (8, 0b01100101, .mhw512),
    (8, 0b01101000, .mhw576), (8, 0b01100111, .mhw640), (9, 0b011001100, .mhw704),
    (9, 0b011001101, .mhw768), (9, 0b011010010, .mhw832), (9, 0b011010011, .mhw896),
    (9, 0b011010100, .mhw960), (9, 0b011010101, .mhw1024), (9, 0b011010110, .mhw1088),
    (9, 0b011010111, .mhw1152), (9, 0b011011000, .mhw1216), (9, 0b011011001, .mhw1280),
    (9, 0b011011010, .mhw1344), (9, 0b011011011, .mhw1408), (9, 0b010011000, .mhw1472),
    (9, 0b010011001, .mhw1536), (9, 0b010011010, .mhw1600), (6, 0b011000, .mhw1664),
    (9, 0b010011011, .mhw1728), (11, 0b00000001000, .mhw1792), (11, 0b00000001100, .mhw1856),
    (11, 0b00000001101, .mhw1920), (12, 0b000000010010, .mhw1984), (12, 0b000000010011, .mhw2048),
    (12, 0b000000010100, .mhw2112), (12, 0b000000010101, .mhw2176), (12, 0b000000010110, .mhw2240),
    (12, 0b000000010111, .mhw2304), (12, 0b000000011100, .mhw2368), (12, 0b000000011101, .mhw2432),
    (12, 0b000000011110, .mhw2496), (12, 0b000000011111, .mhw2560)]

def rowsBlackTerminating : List (Nat × Nat × Instr) :=
  [(10, 0b0000110111, .mhb0), (3, 0b010, .mhb1), (2, 0b11, .mhb2), (2, 0b10, .mhb3), (3, 0b011, .mhb4),
    (4, 0b0011, .mhb5), (4, 0b0010, .mhb6), (5, 0b00011, .mhb7), (6, 0b000101, .mhb8),
    (6, 0b000100, .mhb9), (7, 0b0000100, .mhb10), (7, 0b0000101, .mhb11), (7, 0b0000111, .mhb12),
    (8, 0b00000100, .mhb13), (8, 0b00000111, .mhb14), (9, 0b000011000, .mhb15), (10, 0b0000010111, .mhb16),
    (10, 0b0000011000, .mhb17), (10, 0b0000001000, .mhb18), (11, 0b00001100111, .mhb19),
    (11, 0b00001101000, .mhb20), (11, 0b00001101100, .mhb21), (11, 0b00000110111, .mhb22),
    (11, 0b00000101000, .mhb23), (11, 0b00000010111, .mhb24), (11, 0b00000011000, .mhb25),
    (12, 0b000011001010, .mhb26), (12, 0b000011001011, .mhb27), (12, 0b000011001100, .mhb28),
    (12, 0b000011001101, .mhb29), (12, 0b000001101000, .mhb30), (12, 0b000001101001, .mhb31),
    (12, 0b000001101010, .mhb32), (12, 0b000001101011, .mhb33), (12, 0b000011010010, .mhb34),
    (12, 0b000011010011, .mhb35), (12, 0b000011010100, .mhb36), (12, 0b000011010101, .mhb37),
    (12, 0b000011010110, .mhb38), (12, 0b000011010111, .mhb39), (12, 0b000001101100, .mhb40),
    (12, 0b000001101101, .mhb41), (12, 0b000011011010, .mhb42), (12, 0b000011011011, .mhb43),
    (12, 0b000001010100, .mhb44), (12, 0b000001010101, .mhb45), (12, 0b000001010110, .mhb46),
    (12, 0b000001010111, .mhb47), (12, 0b000001100100, .mhb48), (12, 0b000001100101, .mhb49),
    (12, 0b000001010010, .mhb50), (12, 0b000001010011, .mhb51), (12, 0b000000100100, .mhb52),
    (12, 0b000000110111, .mhb53), (12, 0b000000111000, .mhb54), (12, 0b000000100111, .mhb55),
    (12, 0b000000101000, .mhb56), (12, 0b000001011000, .mhb57), (12, 0b000001011001, .mhb58),
    (12, 0b000000101011, .mhb59), (12, 0b000000101100, .mhb60), (12, 0b000001011010, .mhb61),
    (12, 0b000001100110, .mhb62), (12, 0b000001100111, .mhb63)]

def rowsBlackMakeup : List (Nat × Nat × Instr) :=
  [(10, 0b0000001111, .mhb64), (12, 0b000011001000, .mhb128), (12, 0b000011001001, .mhb192),
    (12, 0b000001011011, .mhb256), (12, 0b000000110011, .mhb320), (12, 0b000000110100, .mhb384),
    (12, 0b000000110101, .mhb448), (13, 0b0000001101100, .mhb512), (13, 0b0000001101101, .mhb576),
    (13, 0b0000001001010, .mhb640), (13, 0b0000001001011, .mhb704), (13, 0b0000001001100, .mhb768),
    (13, 0b0000001001101, .mhb832), (13, 0b0000001110010, .mhb896), (13, 0b0000001110011, .mhb960),
    (13, 0b0000001110100, .mhb1024), (13, 0b0000001110101, .mhb1088), (13, 0b0000001110110, .mhb1152),
    (13, 0b0000001110111, .mhb1216), (13, 0b0000001010010, .mhb1280), (13, 0b0000001010011, .mhb1344),
    (13, 0b0000001010100, .mhb1408), (13, 0b0000001010101, .mhb1472), (13, 0b0000001011010, .mhb1536),
    (13, 0b0000001011011, .mhb1600), (13, 0b0000001100100, .mhb1664), (13, 0b0000001100101, .mhb1728),
    (11, 0b00000001000, .mhb1792), (11, 0b00000001100, .mhb1856), (11, 0b00000001101, .mhb1920),
    (12, 0b000000010010, .mhb1984), (12, 0b000000010011, .mhb2048), (12, 0b000000010100, .mhb2112),
    (12, 0b000000010101, .mhb2176), (12, 0b000000010110, .mhb2240), (12, 0b000000010111, .mhb2304),
    (12, 0b000000011100, .mhb2368), (12, 0b000000011101, .mhb2432), (12, 0b000000011110, .mhb2496),
    (12, 0b000000011111, .mhb2560)]

/-- Half a word, no word (R204, R208), and the same bits in the other table. -/
theorem test_decode_noWord :
    decodeError? (decode .standard (.code .white (toBits 4 0b1101))) = some .endOfInput ∧
    decodeError? (decode .standard (.code .black (toBits 9 0b000000001))) = some .noPath ∧
    decoded? (decode .standard (.code .black (toBits 3 0b011))) = some .mhb4 ∧
    decodeError? (decode .standard (.code .black (toBits 4 0b0111))) = some .trailingBits := by
  decide +kernel

/-- By number, as opcode_table.json numbers its rows: a command, and two code words. -/
theorem test_decodeTableWord :
    decodeTableWord 96 0x020000080000000300000004 = some (.pcreate .uint 8 .le 3 4) ∧
    decodeTableWord 8 0b00110101 = some .mhw0 ∧
    decodeTableWord 16 0b0000001101100 = some .mhb512 := by decide +kernel

/-! ### One step of each instruction -/

/-- The vectors start from reset; `IN` and `BUF` as given. -/
def withBuf (bytes : List Byte) (s : State) : State := { s with buf := cells 0 bytes }

/-- A region of all the bytes of `IN`, at its first bit (after `HREGION 0, n`). -/
def region (bytes : List Byte) : State :=
  { State.reset with
    inp := cells 0 bytes
    hu := { HU.reset with hvalid := true, rcount := BitVec.ofNat 32 bytes.length } }

/-- The instance of `PCREATE UINT, 8, LE, 3, 3` (95_test_vectors P1). -/
def rgb : PU :=
  { PU.reset with
    pvalid := true, variant := .i8, sampleSize := 1, samplesPerPixel := 3, pixelWidth := 3,
    pixelStride := 3, scanlineStride := 9, saved := [0, 0, 0] }

/-- P1 before its third command: one byte into the second row. -/
def rgbMid : State :=
  withBuf [0x80, 0x80, 0x7F, 0x7F, 0x7F, 0x02, 0x02, 0x02, 0x30, 0x80]
    { State.reset with pu := { rgb with column := 1, saved := [0x80, 0x20, 0x30] } }

/-- 95_test_vectors_derived 1: `SINT, 16`; R143: `FLOAT, 16`. -/
theorem test_resolve :
    answered (step (State.reset.withFetchWord 96 0x010100100000000000000000)) = some 0x002200000000 ∧
    answered (exec (.resolve .float 16) State.reset) = some 0x010000000000 := by decide

/-- P1, first command. -/
theorem test_pcreate :
    answered (exec (.pcreate .uint 8 .le 3 3) State.reset) = some 0x000100000009 ∧
    after (·.pu) (exec (.pcreate .uint 8 .le 3 3) State.reset) = some rgb := by decide

/-- R148, R150, V3: one pixel wide, the instance is lost. -/
theorem test_pcreate_geometry :
    answered (exec (.pcreate .uint 8 .le 3 1) rgbMid) = some 0x020000000000 ∧
    after (·.pu.pvalid) (exec (.pcreate .uint 8 .le 3 1) rgbMid) = some false := by decide

/-- P1, third command: a call that begins inside a pixel. -/
theorem test_preverse_carry :
    answered (exec (.preverse 0 8) rgbMid) = some 0x000000000008 ∧
    after (fun t => (t.pu.column, t.pu.saved, t.buf)) (exec (.preverse 0 8) rgbMid) =
      some (0, [0x01, 0x01, 0x01],
        cells 0 [0x80, 0x80, 0xFF, 0xFF, 0xFF, 0x01, 0x01, 0x01, 0x30, 0x80]) := by decide +kernel

/-- The counterexample after V5: `16777216.0 + 1.0` rounds to even. -/
theorem test_preverse_float :
    after (fun t => (t.pu.saved, t.buf)) (exec (.preverse 0 8)
      { State.reset with
        pu := { PU.reset with pvalid := true, variant := .f32, sgn := true, sampleSize := 4,
                              samplesPerPixel := 1, pixelWidth := 2, pixelStride := 4, scanlineStride := 8,
                              saved := [0] }
        buf := cells 0 [0x00, 0x00, 0x80, 0x3F, 0x00, 0x00, 0x80, 0x4B] }) =
      some ([0x4B800000], cells 0 [0x00, 0x00, 0x80, 0x3F, 0x00, 0x00, 0x80, 0x4B]) := by decide +kernel

/-- P4: a new region clears the sticky fault. -/
theorem test_hregion :
    after (·.hu) (exec (.hregion 3 1)
      { State.reset with hu := { HU.reset with hvalid := true, hfault := true, hcause := .corrupt, rcount := 4,
                                               bitcur := 13, color := .black } }) =
      some { HU.reset with hvalid := true, hcause := .corrupt, rstart := 3, rcount := 1 } := by decide

/-- R198: a region that ends one byte beyond `IN`. -/
theorem test_hregion_range : answered (exec (.hregion 60 5) State.reset) = some 0x060000000000 := by decide

/-- P3, third command: the cursor stays at bit 6. -/
theorem test_hline :
    after (·.hu) (exec .hline
      { State.reset with hu := { HU.reset with hvalid := true, rcount := 3, bitcur := 6, color := .black } }) =
      some { HU.reset with hvalid := true, rcount := 3, bitcur := 6 } := by decide

/-- V1 (c): makeup 64, then WHITE 0. -/
theorem test_hnext :
    answered (exec (.hnext .w) (region [0xD9, 0xA8])) = some 0x000100000040 ∧
    after (fun t => (t.hu.bitcur, t.hu.color, t.hu.acc, t.hu.hfault)) (exec (.hnext .w) (region [0xD9, 0xA8])) =
      some (13, .black, 0, false) := by decide +kernel

/-- P4: the end-of-line prefix. -/
theorem test_hnext_corrupt :
    after (fun t => (t.rsp.map Response.word, t.hu.bitcur, t.hu.color, t.hu.hfault, t.hu.hcause))
      (exec (.hnext .cur)
        { region [0x98, 0x00, 0x80, 0xC8] with
          hu := { HU.reset with hvalid := true, rcount := 4, bitcur := 5, color := .black } }) =
      some (some 0x030000000000, 13, .black, true, .corrupt) := by decide +kernel

/-- V1 (c) with the swapped tables: the same bytes, read with the other selector; and a colliding table (U19). -/
theorem test_hnext_tables :
    answered (exec (.hnext .b) { region [0xD9, 0xA8] with cfg := { Params.ofVectors with tables := swappedTables } }) =
      some 0x000100000040 ∧
    refusal? (exec (.hnext .w) { region [0xD9, 0xA8] with cfg := { Params.ofVectors with tables := collidingTables } }) =
      some .noHardware := by decide +kernel

/-- A word placed at a region's start, run as one step of an `HNEXT` with `acc = 64`: its bits are consumed; a
terminating word ends the run, a makeup word goes on (R205, R206). -/
def runsAs (c : Color) (row : Nat × Nat × Instr) : Bool :=
  let run := match row.2.2.codeWord? with
    | some (_, v) => v
    | none => 0
  let s := placeCode c (toBits row.1 row.2.1) State.reset
  match step { s with hu := { s.hu with acc := 64 } } with
  | .next t =>
    t.hu.bitcur = row.1 &&
      (if run < 64 then
        t.rsp = some ⟨.ok, 1, BitVec.ofNat 32 (64 + run)⟩ && t.hu.color = .black && t.hu.walk = none
      else t.rsp = none && t.hu.acc = BitVec.ofNat 32 (64 + run) && t.hu.walk = some c)
  | _ => false

/-- R116 and the walk after V1 (c): entries of `ROM_WHITE`. -/
theorem test_rom_white :
    romWhite.length = 209 ∧ romBlack.length = 209 ∧ romWhite[0]? = some 184 ∧ romWhite[184]? = some 198 ∧
   
    romWhite[205]? = some (-65 : RomEntry) ∧ romWhite[8]? = some 0 ∧ romBlack[8]? = some 0 := by decide +kernel

/-! ### Witnesses

For each statement with hypotheses, values that meet them together, at a boundary where there is one. -/

/-- `RESOLVE SINT, 16` is the next thing the host sends. -/
def sCommand : State := { State.reset with inbox := [.command 0x010100100000000000000000 []] }

theorem witness_StepRunsTheDecodedCommand :
    sCommand.hu.walk = none ∧ sCommand.inbox = .command 0x010100100000000000000000 [] :: [] ∧
    decodeCommand 0x010100100000000000000000 = .ok (.resolve .sint 16) := ⟨rfl, rfl, rfl⟩

/-- Inside an `HNEXT W`, all of `IN` the region, at the terminating word `00110101`. -/
def sInside : State :=
  { region [0xD9, 0xA8] with
    hu := { HU.reset with hvalid := true, rcount := 2, bitcur := 5, acc := 64, walk := some .white }
    cfg := { Params.ofVectors with inSize := 2 } }

theorem witness_StepRunsTheCodeWordAtTheCursor :
    sInside.hu.walk = some .white ∧ sInside.hu.rstart.toNat + sInside.hu.rcount.toNat ≤ sInside.cfg.inSize.toNat ∧
    ∃ i used, decodeWord sInside.cfg.tables .white (unreadBits sInside) = .ok (i, used) := by
  refine ⟨rfl, by decide, ?_⟩
  have h : (match decodeWord sInside.cfg.tables .white (unreadBits sInside) with | .ok _ => true | .error _ => false) = true := by
    decide +kernel
  cases hd : decodeWord sInside.cfg.tables .white (unreadBits sInside) with
  | ok x => exact ⟨x.1, x.2, rfl⟩
  | error e => simp [hd] at h

theorem witness_CoreIdlesWithoutCommands : State.reset.hu.walk = none ∧ State.reset.inbox = [] := ⟨rfl, rfl⟩

theorem witness_CommandHasOneEncoding : decodeCommand 0x110000000000000000000000 = .ok .hline := rfl

theorem witness_CodeTablesArePrefixFree :
    (⟨0, 8, 0b00110101⟩ : CodeRow) ∈ codeTable .standard .white ∧
    (⟨0, 8, 0b00110101⟩ : CodeRow).pattern <+: (⟨0, 8, 0b00110101⟩ : CodeRow).pattern :=
  ⟨by decide, List.prefix_rfl⟩

theorem witness_IllegalCommandHasNoEffect :
    ({ State.reset with inbox := [.command 0x010300080000000000000000 []] } : State).hu.walk = none ∧
    (fieldsOf 0x010300080000000000000000).wellFormed = false := ⟨rfl, by decide⟩

/-- Witnesses of `WalkIsPrefixMatching`: the ROM of a build that is not the default. -/
theorem witness_WalkIsPrefixMatching :
    tablesWellFormed swappedTables = true ∧ ∃ t, rom swappedTables .white = some t :=
  ⟨test_wellFormed_swapped, Option.isSome_iff_exists.1 (rom_isSome test_wellFormed_swapped _)⟩

/-- For `EveryInstructionDecodesBack`: the default tables and others. -/
theorem witness_EveryInstructionDecodesBack :
    tablesWellFormed .standard = true ∧ tablesWellFormed swappedTables = true :=
  ⟨standard_wellFormed, test_wellFormed_swapped⟩

theorem witness_OnlyEightZerosHaveNoPath : rom .standard .white = some romWhite := rfl

theorem witness_TableOrderDoesNotChangeTheRom :
    (codeTable .standard .black).Perm (codeTable .standard .black).reverse := (List.reverse_perm _).symm

/-- A state of a build whose WHITE table collides, and all that `HNEXT` checks. -/
theorem witness_CollidingTablesAreRefused :
    let s : State := { region [0xD9, 0xA8] with cfg := { Params.ofVectors with tables := collidingTables } }
    ¬ (codeTable s.cfg.tables (selColor s.hu.color .w)).Pairwise
      (fun r q => ¬ r.pattern <+: q.pattern ∧ ¬ q.pattern <+: r.pattern) ∧
    s.hu.hvalid = true ∧ s.hu.hfault = false ∧
    s.hu.rstart.toNat + s.hu.rcount.toNat ≤ s.cfg.inSize.toNat := by
  decide +kernel

/-- `PREVERSE 2, 4`: touches before, after and at the end of `BUF` and of any byte of `IN`, and then one that ends with the
region's first byte or begins with its last. -/
theorem witness_HostTouchOfARunningRegionIsRefused_buf :
    decodeCommand 0x030000000000000200000004 = .ok (.preverse 2 4) ∧ State.reset.hu.walk = none ∧
    (∀ u ∈ ([.writeBuf 0 [0xFF, 0xFF], .readBuf 4 60, .writeBuf 63 [0xFF], .readBuf 2 0, .writeIn 63 [0xFF],
        .readIn 0 64] : List HostTouch),
      TouchExists State.reset.cfg u ∧ ¬ TouchMeets State.reset.hu (.preverse 2 4) u) ∧
    TouchMeets State.reset.hu (.preverse 2 4) (.writeBuf 1 [0xFF, 0xFF]) ∧
    TouchMeets State.reset.hu (.preverse 2 4) (.readBuf 3 1) := by
  refine ⟨rfl, rfl, ?_, ⟨2, by decide⟩, 3, by decide⟩
  simp [TouchExists, TouchMeets, State.reset, State.resetOf, Params.ofVectors]
  exact ⟨fun x _ _ => by omega, fun x _ _ => by omega, fun x _ _ => by omega, fun x _ _ => by omega⟩

/-- `HNEXT CUR` on a region of two bytes: reads of it, writes after it and in `BUF`, and then a write of its last byte. -/
theorem witness_HostTouchOfARunningRegionIsRefused_in :
    decodeCommand 0x120200000000000000000000 = .ok (.hnext .cur) ∧ (region [0xD9, 0xA8]).hu.walk = none ∧
    (∀ u ∈ ([.readIn 0 2, .writeIn 2 [0xFF], .writeBuf 0 [0xFF]] : List HostTouch),
      TouchExists (region [0xD9, 0xA8]).cfg u ∧ ¬ TouchMeets (region [0xD9, 0xA8]).hu (.hnext .cur) u) ∧
    TouchMeets (region [0xD9, 0xA8]).hu (.hnext .cur) (.writeIn 1 [0xFF]) := by
  refine ⟨rfl, rfl, ?_, 1, by decide⟩
  simp [TouchExists, TouchMeets, State.reset, State.resetOf, Params.ofVectors, region, HU.reset]
  omega

/-- An illegal command with a touch of the last byte of `IN`, and such a touch between commands. -/
theorem witness_HostTouchOfARunningRegionIsRefused_others :
    State.reset.hu.walk = none ∧ (fieldsOf 0).wellFormed = false ∧
    TouchExists State.reset.cfg (.writeIn 63 [0xFF]) :=
  ⟨rfl, by decide, by simp [TouchExists, State.reset, State.resetOf, Params.ofVectors]⟩

/-- The two outcomes on one step each, at the region's last byte and just after it. -/
theorem test_hostTouch :
    refusal? (step { State.reset with
      inbox := [.command 0x030000000000000200000004 [.touch (.writeBuf 3 [0xFF])]] }) =
      some .hostTouchedRegion ∧
    after (·.buf) (step { State.reset with
      inbox := [.command 0x030000000000000200000004 [.touch (.writeBuf 4 [0xFF])]] }) =
      some [(4, 0xFF)] ∧
    after (·.inp) (step { region [0xD9] with
      inbox := [.command 0x120200000000000000000000 [.touch (.readIn 0 1), .touch (.writeIn 1 [0x55])]] }) =
      some [(0, 0xD9), (1, 0x55)] := by decide +kernel

theorem witness_SecondCommandOrResetDuringACommandIsRefused :
    ({ State.reset with inbox := [.command 0 [.command 0]] } : State).hu.walk = none ∧
    ({ State.reset with inbox := [.command 0 [.command 0]] } : State).inbox =
      .command 0 (.command 0 :: []) :: [] ∧
    ({ State.reset with inbox := [.command 0 [.reset]] } : State).inbox =
      .command 0 (.reset :: []) :: [] := ⟨rfl, rfl, rfl⟩

theorem test_secondCommand :
    refusal? (step { State.reset with inbox := [.command 0 [.command 0]] }) = some .commandBeforeResponse ∧
    refusal? (step { State.reset with inbox := [.command 0 [.reset]] }) = some .resetDuringCommand := by decide

/-- One byte beyond `BUF`, one byte beyond `IN`. -/
theorem witness_AddressesOutsideAMemoryFault :
    State.reset.hu.walk = none ∧
    State.reset.cfg.bufSize.toNat < 64 + ([0] : List Byte).length ∧
    State.reset.cfg.bufSize.toNat < 64 + 1 ∧
    State.reset.cfg.inSize.toNat < 63 + ([0, 0] : List Byte).length ∧ State.reset.cfg.inSize.toNat < 63 + 2 := by
  decide

theorem test_addressOutside :
    fault? (step { State.reset with inbox := [.touch (.writeBuf 64 [0])] }) = some .noSuchBufAddress ∧
    fault? (step { State.reset with inbox := [.touch (.readIn 63 2)] }) = some .noSuchInAddress := by decide

/-- A machine that has run, and its reset; a reset between and a reset during commands. -/
theorem witness_ResetLeavesTheStatedValues :
    (∃ u, hostReset rgbMid = hostReset u) ∧ State.reset = State.resetOf Params.ofVectors ∧
    ({ rgbMid with inbox := [.reset] } : State).hu.walk = none ∧
    ({ rgbMid with inbox := [.reset] } : State).inbox = .reset :: [] ∧
    ({ rgbMid with inbox := [.command 0 [.reset]] } : State).inbox = .command 0 (.reset :: []) :: [] :=
  ⟨⟨rgbMid, rfl⟩, rfl, rfl, rfl, rfl⟩

/-- The smallest and the largest number of bands. -/
theorem witness_InvariantHoldsAfterReset :
    (Params.mk 0 0 1 .ieee .standard).wellFormed = true ∧
    (Params.mk 0 0 0xFFFFFFFF .configured swappedTables).wellFormed = true := by
  simp [Params.wellFormed, standard_wellFormed, test_wellFormed_swapped]

/-- The last row of the table, and a pair that is in none. -/
theorem witness_ResolveAnswersPerTheTable :
    (Kind.float, (64 : BitVec 16).toNat, Variant.f64, 8, true, true) ∈ typeRows ∧
    ∀ row ∈ typeRows, (row.1, row.2.1) ≠ (Kind.float, (16 : BitVec 16).toNat) := by decide

/-- Two pixels a row and as many bands as the build has; and the largest row there is (R151 (c)). -/
theorem witness_PcreateBuildsTheInstance :
    (Kind.uint, (8 : BitVec 16).toNat, Variant.i8, 1, false, false) ∈ typeRows ∧
    Geometry State.reset.cfg.maxBands.toNat 1 (16 : Word).toNat (2 : Word).toNat ∧
    Geometry (65535 : Word).toNat 1 (65535 : Word).toNat (65537 : Word).toNat := by decide

/-- An unlisted type; one pixel a row; one band too many; a row of `2 ^ 32` bytes; a pixel of `2 ^ 32` bytes; and a
`PCREATE` with `kind = 3`. -/
theorem witness_PcreateFailureLeavesNoInstance :
    (∀ row ∈ typeRows, (row.1, row.2.1) ≠ (Kind.uint, (4 : BitVec 16).toNat)) ∧
    (Kind.uint, (64 : BitVec 16).toNat, Variant.i64, 8, false, false) ∈ typeRows ∧
    ¬ Geometry State.reset.cfg.maxBands.toNat 8 (1 : Word).toNat (1 : Word).toNat ∧
    ¬ Geometry State.reset.cfg.maxBands.toNat 8 (17 : Word).toNat (2 : Word).toNat ∧
    ¬ Geometry (65536 : Word).toNat 1 (65536 : Word).toNat (65536 : Word).toNat ∧
    ¬ Geometry (0xFFFFFFFF : Word).toNat 8 (0x20000000 : Word).toNat (2 : Word).toNat ∧
    (fieldsOf 0x020300080000000300000004).op = 0x02 ∧
    (fieldsOf 0x020300080000000300000004).wellFormed = false := by decide

/-- The widest sample, its last byte, and the largest two-byte value. -/
theorem witness_LoadAndStoreSample :
    (8 : Nat) ≤ 8 ∧ 7 < 8 ∧ (0xFFFF : Sample).toNat < 2 ^ (8 * 2) ∧
    ∃ x pos : Nat, x < pos ∧ ∃ y size : Nat, pos + size ≤ y := ⟨by decide, by decide, by decide, 0, 1, by decide, 3, 2, by decide⟩

/-- The largest finite binary32 value, whose double is beyond the overflow threshold, and 1.0; the same in binary64. -/
theorem witness_DefaultFloatAdditionIsCorrectlyRounded :
    FloatFinite 8 23 (0x7F7FFFFF : BitVec 32).toNat ∧ FloatFinite 8 23 (0x3F800000 : BitVec 32).toNat ∧
    FloatFinite 11 52 (0x7FEFFFFFFFFFFFFF : BitVec 64).toNat ∧
    FloatFinite 11 52 (0x0000000000000001 : BitVec 64).toNat := by decide +kernel

/-- Hand-computed sums: `1.5 + 2.5`; the double of the largest finite value; `1.0 + 2^-24`, a tie; the smallest subnormal
twice; `1.0 + -1.0`; two negative zeros. -/
theorem test_ieeeAdd32 :
    ieeeAdd32 0x3FC00000 0x40200000 = 0x40800000 ∧ ieeeAdd32 0x7F7FFFFF 0x7F7FFFFF = 0x7F800000 ∧
    ieeeAdd32 0x3F800000 0x33800000 = 0x3F800000 ∧ ieeeAdd32 0x00000001 0x00000001 = 0x00000002 ∧
    ieeeAdd32 0x3F800000 0xBF800000 = 0x00000000 ∧ ieeeAdd32 0x80000000 0x80000000 = 0x80000000 := by
  decide +kernel

/-- A NaN; infinities of opposite signs; an infinity with a finite value, and with itself. -/
theorem witness_DefaultFloatAdditionOfSpecialValues :
    floatIsNaN 8 23 (0x7FC00000 : BitVec 32).toNat = true ∧
    (floatIsInf 8 23 (0x7F800000 : BitVec 32).toNat = true ∧ floatIsInf 8 23 (0xFF800000 : BitVec 32).toNat = true ∧
      (0x7F800000 : BitVec 32).getLsbD 31 ≠ (0xFF800000 : BitVec 32).getLsbD 31) ∧
    (floatIsNaN 8 23 (0x3F800000 : BitVec 32).toNat = false ∧ floatIsInf 8 23 (0x3F800000 : BitVec 32).toNat = false) ∧
    floatIsNaN 8 23 (0x7F800000 : BitVec 32).toNat = false ∧
    floatIsNaN 11 52 (0x7FF8000000000000 : BitVec 64).toNat = true ∧
    (floatIsInf 11 52 (0x7FF0000000000000 : BitVec 64).toNat = true ∧
      floatIsInf 11 52 (0xFFF0000000000000 : BitVec 64).toNat = true ∧
      (0x7FF0000000000000 : BitVec 64).getLsbD 63 ≠ (0xFFF0000000000000 : BitVec 64).getLsbD 63) ∧
    floatIsNaN 11 52 (0x3FF0000000000000 : BitVec 64).toNat = false ∧
    floatIsInf 11 52 (0x3FF0000000000000 : BitVec 64).toNat = false := by decide +kernel

/-- No instance; an inverted region; a region one byte too long. -/
theorem witness_PreverseRefusesBeforeAnyAccess :
    State.reset.pu.pvalid = false ∧ rgbMid.pu.pvalid = true ∧ (3 : Word).toNat < (4 : Word).toNat ∧
    rgbMid.cfg.bufSize.toNat < (65 : Word).toNat := by decide

theorem rgbMid_instance : PUInstance rgbMid.cfg rgbMid.pu :=
  ⟨rfl, by decide, by decide, by decide, rfl, rfl, rfl, by decide, rfl, by simp [rgbMid, withBuf, rgb]⟩

/-- The hypotheses that the statements about a completing `PREVERSE` share. -/
abbrev PreverseHypotheses (s : State) (a b : Word) : Prop :=
  s.pu.pvalid = true ∧ PUInstance s.cfg s.pu ∧ a.toNat ≤ b.toNat ∧ b.toNat ≤ s.cfg.bufSize.toNat

theorem rgbMid_preverse (a b : Word) (h : a.toNat ≤ b.toNat ∧ b.toNat ≤ 64) : PreverseHypotheses rgbMid a b :=
  ⟨rfl, rgbMid_instance, h.1, h.2⟩

/-- An instance in the middle of a row; a region up to the end of `BUF`; an empty region. -/
theorem witness_PreverseCompletesAndMovesTheCursor :
    PreverseHypotheses rgbMid 0 64 ∧ PreverseHypotheses rgbMid 64 64 :=
  ⟨rgbMid_preverse _ _ (by decide), rgbMid_preverse _ _ (by decide)⟩

/-- In `PREVERSE 0, 10` from there: sample 0 takes the carry buffer, sample 3 takes `BUF`, sample 8 is of a first pixel. -/
theorem witness_PreverseDecodesEverySample :
    PreverseHypotheses rgbMid 0 10 ∧
    (0 < (10 - 0) / rgbMid.pu.sampleSize.toNat ∧
      rgbMid.pu.pixelStride.toNat > 0 * rgbMid.pu.sampleSize.toNat ∧
      rgbMid.pu.pixelStride.toNat ≤ (4 + 0 * rgbMid.pu.sampleSize.toNat) % rgbMid.pu.scanlineStride.toNat) ∧
    (3 < (10 - 0) / rgbMid.pu.sampleSize.toNat ∧
      rgbMid.pu.pixelStride.toNat ≤ 3 * rgbMid.pu.sampleSize.toNat ∧
      rgbMid.pu.pixelStride.toNat ≤
        (rgbMid.pu.column.toNat + 3 * rgbMid.pu.sampleSize.toNat) % rgbMid.pu.scanlineStride.toNat) ∧
    (8 < (10 - 0) / rgbMid.pu.sampleSize.toNat ∧
      (rgbMid.pu.column.toNat + 8 * rgbMid.pu.sampleSize.toNat) % rgbMid.pu.scanlineStride.toNat <
        rgbMid.pu.pixelStride.toNat) := ⟨rgbMid_preverse _ _ (by decide), by decide⟩

/-- In `PREVERSE 0, 2` from there: sample 1 is the last of band 2, and none is of band 0. -/
theorem witness_PreverseCarriesTheLastSampleOfEachBand :
    PreverseHypotheses rgbMid 0 2 ∧
    2 < rgbMid.pu.samplesPerPixel.toNat ∧ 1 < ((2 : Word).toNat - (0 : Word).toNat) / rgbMid.pu.sampleSize.toNat ∧
    sampleBand rgbMid.pu 1 = 2 ∧ 0 < rgbMid.pu.samplesPerPixel.toNat ∧
    ∀ k < ((2 : Word).toNat - (0 : Word).toNat) / rgbMid.pu.sampleSize.toNat, sampleBand rgbMid.pu k ≠ 0 :=
  ⟨rgbMid_preverse _ _ (by decide), by decide⟩

/-- `PREVERSE 1, 8`: the byte before the region and the byte after it; sample 0 is of the first pixel. -/
theorem witness_PreverseLeavesEveryOtherByte :
    PreverseHypotheses rgbMid 1 8 ∧
    (0 < (1 : Word).toNat) ∧
    (1 : Word).toNat + ((8 : Word).toNat - (1 : Word).toNat) / rgbMid.pu.sampleSize.toNat *
      rgbMid.pu.sampleSize.toNat ≤ 8 ∧
    0 < ((8 : Word).toNat - (1 : Word).toNat) / rgbMid.pu.sampleSize.toNat ∧
    (rgbMid.pu.column.toNat + 0 * rgbMid.pu.sampleSize.toNat) % rgbMid.pu.scanlineStride.toNat <
      rgbMid.pu.pixelStride.toNat := ⟨rgbMid_preverse _ _ (by decide), by decide⟩

/-- Two memories that agree on the region of `PREVERSE 0, 8` and differ at the byte after it. -/
theorem witness_PreverseReadsNoOtherByte :
    PreverseHypotheses rgbMid 0 8 ∧
    (∀ x, (0 : Word).toNat ≤ x →
      x < (0 : Word).toNat + ((8 : Word).toNat - (0 : Word).toNat) / rgbMid.pu.sampleSize.toNat *
        rgbMid.pu.sampleSize.toNat →
      memGet? (memSet rgbMid.buf 8 0x77) x = memGet? rgbMid.buf x) ∧
    memGet? (memSet rgbMid.buf 8 0x77) 8 ≠ memGet? rgbMid.buf 8 ∧
    (∃ t, exec (.preverse 0 8) rgbMid = .next t) := by
  have hsize : ((8 : Word).toNat - (0 : Word).toNat) / rgbMid.pu.sampleSize.toNat * rgbMid.pu.sampleSize.toNat = 8 := by
    decide
  refine ⟨rgbMid_preverse _ _ (by decide), fun x _ hx => memGet?_memSet_ne _ _ ?_, by decide, answers (by decide +kernel)⟩
  rw [hsize] at hx
  simp at hx
  omega

/-- Three pieces, the first empty, cut where the row is not. -/
theorem witness_AnyCuttingOfARegionDecodesAlike :
    List.IsChain (fun x y : Word => x.toNat ≤ y.toNat) ((0 : Word) :: [0, 5] ++ [10]) ∧
    rgbMid.pu.pvalid = true ∧ PUInstance rgbMid.cfg rgbMid.pu ∧ (10 : Word).toNat ≤ rgbMid.cfg.bufSize.toNat := by
  refine ⟨?_, rfl, rgbMid_instance, by decide⟩
  simp

/-- Two samples a row, one byte each: `10 E0` encodes `10 F0` (V5). -/
def sPair : State :=
  withBuf [0x10, 0xE0]
    { State.reset with
      pu := { PU.reset with pvalid := true, variant := .i8, sampleSize := 1, samplesPerPixel := 1,
                            pixelWidth := 2, pixelStride := 1, scanlineStride := 2, saved := [0] } }

def xPair : Nat → Sample
  | 0 => 0x10
  | _ => 0xF0

theorem witness_IntegerDifferencesRoundTrip :
    sPair.pu.pvalid = true ∧ PUInstance sPair.cfg sPair.pu ∧ sPair.pu.variant.isInteger = true ∧
    sPair.pu.column = 0 ∧ (2 : Word).toNat = (0 : Word).toNat + 2 * sPair.pu.sampleSize.toNat ∧
    (2 : Word).toNat ≤ sPair.cfg.bufSize.toNat ∧
    (∀ j < 2, (xPair j).toNat < 2 ^ (8 * sPair.pu.sampleSize.toNat)) ∧
    ∀ j < 2, (sampleAt sPair.pu sPair.buf (0 : Word).toNat j).toNat = encodedAt sPair.pu xPair j :=
  ⟨rfl, ⟨rfl, by decide, by decide, by decide, rfl, rfl, rfl, by decide, rfl, by simp [sPair, withBuf]⟩,
    rfl, rfl, rfl, by decide, by decide +kernel, by decide +kernel⟩

/-- A region that ends where `IN` ends, an empty one, and one a byte longer. -/
theorem witness_HregionSetsTheRegion :
    (60 : Word).toNat + (4 : Word).toNat ≤ State.reset.cfg.inSize.toNat ∧
    (64 : Word).toNat + (0 : Word).toNat ≤ State.reset.cfg.inSize.toNat ∧
    State.reset.cfg.inSize.toNat < (60 : Word).toNat + (5 : Word).toNat := by decide

/-- A latched fault. -/
def sLatched : State :=
  { region [0x00] with
    hu := { HU.reset with hvalid := true, rcount := 1, bitcur := 8, acc := 64, hfault := true,
                          hcause := .corrupt } }

/-- For `HlineStartsACodedLine` and `HnextChecksBeforeAnyBit`: no region; a region without a fault; one with a fault;
both colours. -/
theorem witness_HlineAndHnextChecks :
    State.reset.hu.hvalid = false ∧
    ((region [0xD9]).hu.hvalid = true ∧ (region [0xD9]).hu.hfault = false ∧ (region [0xD9]).hu.color = .white) ∧
    (sLatched.hu.hvalid = true ∧ sLatched.hu.hfault = true) ∧
    ({ State.reset with hu := { HU.reset with color := .black } } : State).hu.color = .black := by decide

/-- The last bit of a region of one byte, and the place after it. -/
theorem witness_BitsAreReadMostSignificantFirst :
    (region [0xD9]).hu.bitcur + 7 < 8 * (region [0xD9]).hu.rcount.toNat ∧
    8 * (region [0xD9]).hu.rcount.toNat ≤ (region [0xD9]).hu.bitcur + 8 := by decide

/-- V1 (c), in an `IN` of two bytes. -/
def sV1 : State := { region [0xD9, 0xA8] with cfg := { Params.ofVectors with inSize := 2 } }

theorem wellFormed_ofVectors (n : Word) : ({ Params.ofVectors with inSize := n } : Params).wellFormed = true := by
  simp [Params.wellFormed, Params.ofVectors, standard_wellFormed]

theorem witness_HnextReturnsTheCodedRun :
    sV1.cfg.wellFormed = true ∧ sV1.hu.hvalid = true ∧ sV1.hu.hfault = false ∧
    sV1.hu.rstart.toNat + sV1.hu.rcount.toNat ≤ sV1.cfg.inSize.toNat ∧
    (CodedRun.mk [64] 0).Valid ∧
    unreadBits sV1 = (CodedRun.mk [64] 0).bits sV1.cfg.tables (selColor sV1.hu.color .w) ++ [false, false, false] :=
  ⟨wellFormed_ofVectors 2, by decide +kernel⟩

/-- Makeup 64, then a bit string that leaves the default table at its last bit, then three bits. -/
theorem witness_HnextFaultsWhereNoWordIs :
    (region [0xD8, 0x07]).cfg.wellFormed = true ∧
    (region [0xD8, 0x07]).hu.hvalid = true ∧ (region [0xD8, 0x07]).hu.hfault = false ∧
    (region [0xD8, 0x07]).hu.rstart.toNat + (region [0xD8, 0x07]).hu.rcount.toNat ≤ (region [0xD8, 0x07]).cfg.inSize.toNat ∧
    (∀ m ∈ [64], IsMakeup m) ∧ [64].sum ≤ accMax ∧
    DeadEnd (codeTable (region [0xD8, 0x07]).cfg.tables (selColor (region [0xD8, 0x07]).hu.color .cur))
      (List.replicate 8 false) ∧
    unreadBits (region [0xD8, 0x07]) =
      wordsBits (region [0xD8, 0x07]).cfg.tables (selColor (region [0xD8, 0x07]).hu.color .cur) [64] ++
        List.replicate 8 false ++ [true, true, true] :=
  ⟨wellFormed_ofVectors 64, by decide +kernel⟩

/-- Makeup 64, then eight zeros, then three bits. -/
theorem witness_HnextFaultsOnEightZeros :
    (region [0xD8, 0x07]).cfg.tables = .standard ∧ (region [0xD8, 0x07]).hu.hvalid = true ∧ (region [0xD8, 0x07]).hu.hfault = false ∧
    (region [0xD8, 0x07]).hu.rstart.toNat + (region [0xD8, 0x07]).hu.rcount.toNat ≤ (region [0xD8, 0x07]).cfg.inSize.toNat ∧
    (∀ m ∈ [64], IsMakeup m) ∧ [64].sum ≤ accMax ∧
    unreadBits (region [0xD8, 0x07]) =
      wordsBits .standard (selColor (region [0xD8, 0x07]).hu.color .cur) [64] ++ List.replicate 8 false ++
        [true, true, true] := by decide +kernel

/-- V1 (b): makeup 64, then three bits of a word; and a region that ends with a word. -/
theorem witness_HnextFaultsAtTheEndOfTheRegion :
    (region [0xD8]).cfg.wellFormed = true ∧
    (region [0xD8]).hu.hvalid = true ∧ (region [0xD8]).hu.hfault = false ∧
    (region [0xD8]).hu.rstart.toNat + (region [0xD8]).hu.rcount.toNat ≤ (region [0xD8]).cfg.inSize.toNat ∧
    (region []).hu.hvalid = true ∧ (region []).hu.hfault = false ∧
    (∀ m ∈ [64], IsMakeup m) ∧ [64].sum ≤ accMax ∧ IsRun 1 ∧
    [false, false, false] <+: patternOf (region [0xD8]).cfg.tables .white 1 ∧ [false, false, false] ≠ patternOf (region [0xD8]).cfg.tables .white 1 ∧
    unreadBits (region [0xD8]) =
      wordsBits (region [0xD8]).cfg.tables (selColor (region [0xD8]).hu.color .w) [64] ++ [false, false, false] ∧
    unreadBits (region []) = wordsBits (region []).cfg.tables .white [] ++ [] :=
  ⟨wellFormed_ofVectors 64, by decide +kernel⟩

/-- The sums that just fit in `acc`, and the one that just does not. -/
theorem witness_CodeWordConsumesItsBitsAndAdds :
    sInside.cfg.wellFormed = true ∧
    Instr.mhw63.codeWord? = some (.white, 63) ∧ Instr.mhb2560.codeWord? = some (.black, 2560) ∧
    (0xFFFFFFC0 : Word).toNat + 63 ≤ accMax ∧ (0xFFFFF5FF : Word).toNat + 2560 ≤ accMax ∧
    accMax < (0xFFFFFFC1 : Word).toNat + 63 := ⟨wellFormed_ofVectors 2, by decide⟩

theorem witness_HnextIsTheRunOfItsCodeWords :
    sV1.cfg.wellFormed = true ∧
    sV1.hu.hvalid = true ∧ sV1.hu.hfault = false ∧ HUInv sV1.cfg sV1.hu ∧ sV1.hu.walk = none :=
  ⟨wellFormed_ofVectors 2, by decide⟩

/-- The second line of P3, which takes all of the region. -/
def sP3 : State :=
  { region [0xA8, 0xD5, 0x9F] with hu := { HU.reset with hvalid := true, rcount := 3, bitcur := 6 } }

theorem witness_ConsecutiveRunsDecodeInOrder :
    sP3.cfg.wellFormed = true ∧ sP3.hu.hvalid = true ∧ sP3.hu.hfault = false ∧
    sP3.hu.rstart.toNat + sP3.hu.rcount.toNat ≤ sP3.cfg.inSize.toNat ∧
    (∀ r ∈ ([⟨[], 0⟩, ⟨[], 4⟩, ⟨[], 10⟩, ⟨[], 2⟩] : List CodedRun), r.Valid) ∧
    unreadBits sP3 = lineBits sP3.cfg.tables .cur sP3.hu.color [⟨[], 0⟩, ⟨[], 4⟩, ⟨[], 10⟩, ⟨[], 2⟩] ++ [] :=
  ⟨wellFormed_ofVectors 64, by decide +kernel⟩

theorem witness_LatchedFaultRepeatsUntilHregion :
    sLatched.hu.hvalid = true ∧ sLatched.hu.hfault = true ∧ ([.hline, .hnext .cur] : List Instr) ≠ [] ∧
    ∀ i ∈ ([.hline, .hnext .cur] : List Instr), i = .hline ∨ ∃ sel, i = .hnext sel := by
  simp [sLatched]

/-- An instance, a region, and written memory. -/
def sBoth : State := { rgbMid with hu := sV1.hu, inp := sV1.inp, inbox := [.command 0x120000000000000000000000 []] }

theorem sBoth_inv (inbox : List HostEvent) : Inv { sBoth with inbox := inbox } :=
  have hc : sBoth.cfg.wellFormed = true := wellFormed_ofVectors 64
  have hh : HUInv sBoth.cfg sBoth.hu := by decide
  have hm : MemInv sBoth := by decide +kernel
  ⟨hc, ⟨fun _ => rgbMid_instance, fun h => nomatch h⟩, hh, hm⟩

theorem reset_inv (cfg : Params) : PUInv cfg PU.reset := ⟨fun h => (nomatch h), fun _ => rfl⟩

/-- Also for `EveryInstructionAnswers`. -/
theorem witness_EveryStepKeepsTheInvariant : Inv sBoth ∧ ∃ t, step sBoth = .next t :=
  ⟨sBoth_inv _, answers (by decide +kernel)⟩

/-- Inside an `HNEXT`; idle; at a reset; at a touch of the last byte of `BUF`; at an `HNEXT` during which the host reads the
region and writes after it. -/
theorem witness_StepNeverStopsADutifulHost :
    (Inv sInside ∧ sInside.hu.walk ≠ none) ∧ (Inv State.reset ∧ State.reset.inbox = []) ∧
    (Inv { sBoth with inbox := [.reset] } ∧
      ∃ rest, ({ sBoth with inbox := [.reset] } : State).inbox = .reset :: rest) ∧
    (Inv { sBoth with inbox := [.touch (.writeBuf 63 [0xFF])] } ∧
      TouchExists sBoth.cfg (.writeBuf 63 [0xFF])) ∧
    Inv { sBoth with inbox := [.command 0x120000000000000000000000 ([.readIn 0 2].map .touch)] } ∧
    (∀ t ∈ ([.readIn 0 2, .writeBuf 63 [0xFF]] : List HostTouch), TouchExists sBoth.cfg t ∧
      ∀ i, decodeCommand 0x120000000000000000000000 = .ok i → ¬ TouchMeets sBoth.hu i t) := by
  refine ⟨⟨⟨wellFormed_ofVectors 2, reset_inv _, by decide, by decide +kernel⟩, by decide⟩,
    ⟨⟨wellFormed_ofVectors 64, reset_inv _, by decide, by decide +kernel⟩, rfl⟩,
    ⟨sBoth_inv _, ⟨_, rfl⟩⟩, ⟨sBoth_inv _, (by decide : 63 + ([0xFF] : List Byte).length ≤ sBoth.cfg.bufSize.toNat)⟩,
    sBoth_inv _, ?_⟩
  intro t ht
  have hd : decodeCommand 0x120000000000000000000000 = .ok (.hnext .w) := rfl
  rcases List.mem_cons.1 ht with rfl | ht
  · exact ⟨(by decide : 0 + 2 ≤ sBoth.cfg.inSize.toNat), fun i hi => by cases hd.symm.trans hi; exact id⟩
  · rcases List.mem_singleton.1 ht with rfl
    exact ⟨(by decide : 63 + ([0xFF] : List Byte).length ≤ sBoth.cfg.bufSize.toNat),
      fun i hi => by cases hd.symm.trans hi; exact id⟩

theorem witness_UnitsAreIndependent :
    (∃ t, exec (.preverse 0 8) sBoth = .next t) ∧ (∃ t, exec (.hnext .w) sBoth = .next t) ∧
    Instr.mhw0.codeWord? ≠ none ∧ ∃ t, exec .mhw0 sInside = .next t :=
  ⟨answers (by decide +kernel), answers (by decide +kernel), by decide, answers (by decide +kernel)⟩

theorem witness_UnspecifiedRegistersAreNotRead :
    let s' : State := { State.reset with
      pu := { PU.reset with variant := .f64, pixelStride := 8 }, hu := { HU.reset with hcause := .overflow } }
    State.reset ≠ s' ∧ forgetUnspecified State.reset = forgetUnspecified s' := by decide

/-- For `OnlyPreverseWritesMemory` and `OnlyPcreateSetsTheGeometry`: instructions that answer, one of them neither
`PREVERSE` nor `PCREATE`. -/
theorem witness_frames :
    (∃ t, exec (.hnext .w) sBoth = .next t) ∧ (∃ t, exec (.resolve .uint 8) sBoth = .next t) ∧
    (∀ a b, Instr.hnext .w ≠ .preverse a b) ∧ ∀ k n o p w, Instr.hnext .w ≠ .pcreate k n o p w :=
  ⟨answers (by decide +kernel), answers (by decide +kernel), by simp, by simp⟩

/-- A fault is latched, and cleared. -/
theorem witness_OnlyHnextLatchesAndOnlyHregionClears :
    ((region [0x00]).hu.hfault = false ∧ ∃ t, exec (.hnext .w) (region [0x00]) = .next t ∧ t.hu.hfault = true) ∧
    (sLatched.hu.hfault = true ∧ ∃ t, exec (.hregion 0 1) sLatched = .next t ∧ t.hu.hfault = false) :=
  ⟨⟨rfl, next_of_after (f := (·.hu.hfault)) (by decide +kernel)⟩,
    rfl, next_of_after (f := (·.hu.hfault)) (by decide +kernel)⟩

/-- An `HNEXT` that answers `OK`, one that faults, and an `HREGION` that answers `RANGE`. -/
theorem witness_ColorFlipsExactlyOnSuccess :
    HUInv sV1.cfg sV1.hu ∧ HUInv sLatched.cfg sLatched.hu ∧
    (∃ t p, exec (.hnext .w) sV1 = .next t ∧ t.rsp = some p ∧ p.st = .ok ∧ p.r = 64) ∧
    (∃ t p, exec (.hnext .w) sLatched = .next t ∧ t.rsp = some p ∧ p.st = .corrupt ∧ p.r = 64) ∧
    ∃ t p, exec (.hregion 64 1) sV1 = .next t ∧ t.rsp = some p ∧ p.st = .range ∧ p.r = 0 :=
  ⟨by decide, by decide, response_of_after (by decide +kernel), response_of_after (by decide +kernel),
    response_of_after (by decide +kernel)⟩

/-- A fault with `acc` in its response, and one without. -/
theorem witness_FaultResponsesCarryOnlyTheCode :
    (∃ t p, exec .hline sLatched = .next t ∧ t.rsp = some p ∧ p.st = .corrupt ∧ p.r = 64) ∧
    ∃ t p, exec .hline State.reset = .next t ∧ t.rsp = some p ∧ p.st = .notReady ∧ p.r = 0 :=
  ⟨response_of_after (by decide +kernel), response_of_after (by decide +kernel)⟩


/-! ### Every row of the opcode table's code words

Its decoding, and one step that runs it; last, because the kernel takes longest over them. -/

theorem test_decode_whiteTerminating : rowsWhiteTerminating.all (readsAs .white) = true := by decide +kernel

theorem test_decode_whiteMakeup : rowsWhiteMakeup.all (readsAs .white) = true := by decide +kernel

theorem test_decode_blackTerminating : rowsBlackTerminating.all (readsAs .black) = true := by decide +kernel

theorem test_decode_blackMakeup : rowsBlackMakeup.all (readsAs .black) = true := by decide +kernel

theorem test_step_whiteTerminating : rowsWhiteTerminating.all (runsAs .white) = true := by decide +kernel

theorem test_step_whiteMakeup : rowsWhiteMakeup.all (runsAs .white) = true := by decide +kernel

theorem test_step_blackTerminating : rowsBlackTerminating.all (runsAs .black) = true := by decide +kernel

theorem test_step_blackMakeup : rowsBlackMakeup.all (runsAs .black) = true := by decide +kernel

/-- Two entries for one run length (R120). -/
theorem test_illFormed_runTwice : tableRunsComplete (⟨0, 9, 0⟩ :: codeTable .standard .white) = false := by
  decide +kernel

/-- The printed images, and a table entered in another order (R132, R133, R193). -/
theorem test_rom_built :
    buildRom (codeTable .standard .white) = some romWhite ∧
    buildRom (codeTable .standard .black).reverse = some romBlack := by decide +kernel

end Sys2Proof.Tests
end

/-! SUPPORT. Proofs of the scope statements (spec 00_scope R3, R15): every instruction answers in hardware that can be built, a
host that keeps its duties is never stopped, and the two units are independent. -/

namespace Sys2Proof.Machine
open Sys2Proof

/-! ### The seven shapes of an instruction -/

/-- An instruction is one of the six commands or a code word: what the 208 rows of code words have in common is their colour
and run length, which `exec_codeWord` reads. -/
inductive InstrShape : Instr → Prop where
  | resolve (kind : Kind) (bits : BitVec 16) : InstrShape (.resolve kind bits)
  | pcreate (kind : Kind) (bits : BitVec 16) (order : ByteOrder) (spp width : Word) :
      InstrShape (.pcreate kind bits order spp width)
  | preverse (start stop : Word) : InstrShape (.preverse start stop)
  | hregion (offset count : Word) : InstrShape (.hregion offset count)
  | hline : InstrShape .hline
  | hnext (sel : Sel) : InstrShape (.hnext sel)
  | codeWord {i : Instr} {c : Color} {v : Nat} (h : i.codeWord? = some (c, v)) : InstrShape i

theorem instrShape (i : Instr) : InstrShape i := by
  cases i with
  | resolve kind bits => exact .resolve kind bits
  | pcreate kind bits order spp width => exact .pcreate kind bits order spp width
  | preverse start stop => exact .preverse start stop
  | hregion offset count => exact .hregion offset count
  | hline => exact .hline
  | hnext sel => exact .hnext sel
  | _ => exact .codeWord rfl

/-! ### A well-formed build has its ROMs, and a row for every code word -/

theorem rom_ne_none {tables : CodeTables} (h : tablesWellFormed tables = true) (c : Color) : rom tables c ≠ none :=
  Option.isSome_iff_ne_none.1 (rom_isSome h c)

/-- A code word stands for a run length of the tables (spec 31_code_tables R120). -/
theorem isRun_of_codeWord? {i : Instr} {c : Color} {v : Nat} (h : i.codeWord? = some (c, v)) : IsRun v := by
  cases i <;> cases h <;> decide

theorem mem_tableRuns {v : Nat} (h : IsRun v) : v ∈ tableRuns := by
  simp only [tableRuns, List.mem_append, List.mem_range, List.mem_map]
  rcases h with hterm | ⟨hlo, hhi, hmod⟩
  · exact .inl hterm
  · exact .inr ⟨v / 64 - 1, by omega, by omega⟩

/-- A well-formed build has a row for each run length (spec 31_code_tables R120). -/
theorem codeRow?_of_isRun {tables : CodeTables} (h : tablesWellFormed tables = true) (c : Color) {v : Nat}
    (hv : IsRun v) : ∃ row, codeRow? tables c v = some row := by
  have hw := tableWellFormed_of_tables h c
  simp only [tableWellFormed, tableRunsComplete, Bool.and_eq_true] at hw
  obtain ⟨⟨-, ⟨hall, -⟩, -⟩, -⟩ := hw
  have hany := List.all_eq_true.1 hall v (mem_tableRuns hv)
  exact Option.isSome_iff_exists.1 (List.find?_isSome.2 (List.any_eq_true.1 hany))

/-! ### Every instruction answers -/

/-- `HNEXT` answers when its region lies inside `IN` and the tables have their ROMs (spec 42_huffman R194, R198). -/
theorem exec_hnext_next (sel : Sel) {s : State} (ht : tablesWellFormed s.cfg.tables = true)
    (hr : regionInside s = true) : ∃ t, exec (.hnext sel) s = .next t := by
  rcases exec_hnext_cases sel s with ⟨-, h⟩ | ⟨-, -, h⟩ | ⟨-, -, hout, -⟩ | ⟨-, -, -, hrom, -⟩ |
    ⟨-, -, -, t, -, ⟨run, used, -, h⟩ | ⟨st, acc, used, -, h⟩⟩
  · exact ⟨_, h⟩
  · exact ⟨_, h⟩
  · simp [hr] at hout
  · exact absurd hrom (rom_ne_none ht _)
  · exact ⟨_, h⟩
  · exact ⟨_, h⟩

/-- A code word answers when the tables have a row for each run length. -/
theorem exec_codeWord_next {i : Instr} {c : Color} {v : Nat} {s : State} (h : i.codeWord? = some (c, v))
    (ht : tablesWellFormed s.cfg.tables = true) : ∃ t, exec i s = .next t := by
  rw [exec_codeWord s h]
  obtain ⟨row, hrow⟩ := codeRow?_of_isRun ht c (isRun_of_codeWord? h)
  rcases runWord_cases c v s with ⟨hnone, -⟩ | ⟨row', -, hnext⟩
  · simp [hrow] at hnone
  · exact ⟨_, hnext⟩

/-- All that an instruction asks of a state in order to answer: tables hardware can be built from, and the input region inside
`IN`. -/
theorem exec_next (i : Instr) {s : State} (ht : tablesWellFormed s.cfg.tables = true)
    (hr : regionInside s = true) : ∃ t, exec i s = .next t := by
  cases instrShape i with
  | resolve kind bits => rcases exec_resolve_cases kind bits s with ⟨-, h⟩ | ⟨t, -, h⟩ <;> exact ⟨_, h⟩
  | pcreate kind bits order spp width =>
    rcases exec_pcreate_cases kind bits order spp width s with ⟨-, h⟩ | ⟨t, -, -, h⟩ | ⟨t, -, -, h⟩ <;>
      exact ⟨_, h⟩
  | preverse start stop =>
    rcases exec_preverse_cases start stop s with ⟨-, h⟩ | ⟨-, -, h⟩ | ⟨-, -, -, cnt, p, -, -, h⟩ <;>
      exact ⟨_, h⟩
  | hregion offset count => rcases exec_hregion_cases offset count s with ⟨-, h⟩ | ⟨-, h⟩ <;> exact ⟨_, h⟩
  | hline => rcases exec_hline_cases s with ⟨-, h⟩ | ⟨-, -, h⟩ | ⟨-, -, h⟩ <;> exact ⟨_, h⟩
  | hnext sel => exact exec_hnext_next sel ht hr
  | codeWord h => exact exec_codeWord_next h ht

/-- The invariant gives what every instruction asks of a state. -/
theorem hardware_of_inv {s : State} (h : Inv s) :
    tablesWellFormed s.cfg.tables = true ∧ regionInside s = true := by
  obtain ⟨hcfg, -, ⟨-, hregion, -⟩, -⟩ := h
  simp only [Params.wellFormed, Bool.and_eq_true] at hcfg
  obtain ⟨-, htables⟩ := hcfg
  exact ⟨htables, decide_eq_true hregion⟩

/-- Settles O48: the invariant keeps the region inside `IN` and the tables buildable, and no instruction asks for more. -/
theorem everyInstructionAnswers : Obligations.EveryInstructionAnswers := by
  intro i s hinv
  obtain ⟨htables, hregion⟩ := hardware_of_inv hinv
  exact exec_next i htables hregion

/-! ### What the core does next -/

theorem step_of_run {s s' : State} {i : Instr} (h : fetch s = .run i s') : step s = exec i s' := by
  simp only [step, h]

theorem step_of_stop {s : State} {o : Host.Outcome State Fault Refusal} (h : fetch s = .stop o) : step s = o := by
  simp only [step, h]

theorem fetch_insideHnext {s : State} {c : Color} (h : s.hu.walk = some c) : fetch s = fetchWord c s := by
  simp only [fetch, h]

theorem fetch_idle {s : State} (h : s.hu.walk = none) (hi : s.inbox = []) : fetch s = .stop (.next s) := by
  simp only [fetch, h, hi]

theorem fetch_event {s : State} {e : HostEvent} {rest : List HostEvent} (h : s.hu.walk = none)
    (hi : s.inbox = e :: rest) : fetch s = fetchEvent e { s with inbox := rest } := by
  simp only [fetch, h, hi]

/-- Everything the fetch inside an `HNEXT` can do (spec 42_huffman R203, R204, R208). -/
theorem fetchWord_cases (c : Color) (s : State) :
    (regionInside s = false ∧ fetchWord c s = .stop (.fault .noSuchInAddress)) ∨
    (regionInside s = true ∧ rom s.cfg.tables c = none ∧ fetchWord c s = .stop (.refused .noHardware)) ∨
    (regionInside s = true ∧ ∃ t, rom s.cfg.tables c = some t ∧
      ((∃ i used, decodeWord s.cfg.tables c (unreadBits s) = .ok (i, used) ∧ fetchWord c s = .run i s) ∨
       (∃ e, decodeWord s.cfg.tables c (unreadBits s) = .error e ∧
          fetchWord c s = .stop (.next (walkFailed (walk t (unreadBits s)) s))))) := by
  simp only [fetchWord]
  cases hr : regionInside s with
  | false => exact .inl ⟨rfl, rfl⟩
  | true =>
    cases ht : rom s.cfg.tables c with
    | none => exact .inr (.inl ⟨rfl, rfl, rfl⟩)
    | some t =>
      refine .inr (.inr ⟨rfl, t, rfl, ?_⟩)
      cases hd : decodeWord s.cfg.tables c (unreadBits s) with
      | ok x => exact .inl ⟨x.1, x.2, rfl, rfl⟩
      | error e => exact .inr ⟨e, rfl, rfl⟩

/-- A legal command word runs its command after what the host does meanwhile. -/
theorem fetchCommand_legal {w : CmdWord} {i : Instr} {ms : List Meanwhile} {s s' : State}
    (hd : decodeCommand w = .ok i) (hm : hostMeanwhile (some i) ms s = .next s') :
    fetchCommand w ms s = .run i s' := by
  simp only [fetchCommand, hd, hm]

/-- An illegal command word answers `ILLEGAL_COMMAND` after what the host does meanwhile (spec 60_exceptions R238). -/
theorem fetchCommand_illegal {w : CmdWord} {e : DecodeError} {ms : List Meanwhile} {s s' : State}
    (hd : decodeCommand w = .error e) (hm : hostMeanwhile none ms s = .next s') :
    fetchCommand w ms s = .stop (raise .illegalCommand s') := by
  simp only [fetchCommand, hd, hm]

/-- `hostMeanwhile_touches` in the words of the statements: existing bytes that do not meet what the command keeps for itself. -/
theorem hostMeanwhile_dutiful (i : Option Instr) (ts : List HostTouch) (s : State)
    (hex : ∀ t ∈ ts, TouchExists s.cfg t) (hok : ∀ t ∈ ts, ∀ j, i = some j → ¬ TouchMeets s.hu j t) :
    hostMeanwhile i (ts.map .touch) s = .next (ts.foldl touchState s) := by
  refine hostMeanwhile_touches i ts s (fun t ht => (touchFault?_eq_none_iff s.cfg t).2 (hex t ht)) fun t ht => ?_
  cases i with
  | none => rfl
  | some j => exact Bool.eq_false_iff.2 fun hf => hok t ht j rfl ((touchForbidden_iff s.hu j t).1 hf)

/-! ### A host that keeps its duties is never stopped -/

/-- Inside an `HNEXT` a step answers: a word is read and run, or the walk ends in a fault of the spec. -/
theorem step_next_insideHnext {s : State} {c : Color} (hinv : Inv s) (hw : s.hu.walk = some c) :
    ∃ t, step s = .next t := by
  obtain ⟨htables, hregion⟩ := hardware_of_inv hinv
  have hfetch := fetch_insideHnext hw
  rcases fetchWord_cases c s with ⟨hout, -⟩ | ⟨-, hrom, -⟩ | ⟨-, t, -, ⟨i, used, -, hrun⟩ | ⟨e, -, hstop⟩⟩
  · simp [hregion] at hout
  · exact absurd hrom (rom_ne_none htables c)
  · rw [step_of_run (hfetch.trans hrun)]
    exact exec_next i htables hregion
  · exact ⟨_, step_of_stop (hfetch.trans hstop)⟩

/-- Between commands a touch of existing bytes is made. -/
theorem step_next_touch {s : State} {t : HostTouch} {rest : List HostEvent} (hw : s.hu.walk = none)
    (hi : s.inbox = .touch t :: rest) (hex : TouchExists s.cfg t) : ∃ t, step s = .next t :=
  have happly : applyTouch t { s with inbox := rest } = .next (touchState { s with inbox := rest } t) :=
    applyTouch_next.2 ⟨(touchFault?_eq_none_iff s.cfg t).2 hex, rfl⟩
  ⟨_, (step_of_stop (fetch_event hw hi)).trans happly⟩

/-- A command word, legal or not, is answered when the host meanwhile touches only what it may: the touches leave the registers
and the build as they are, so the command still finds its hardware. -/
theorem step_next_command {s : State} {w : CmdWord} {ts : List HostTouch} {rest : List HostEvent} (hinv : Inv s)
    (hw : s.hu.walk = none) (hi : s.inbox = .command w (ts.map .touch) :: rest)
    (hex : ∀ t ∈ ts, TouchExists s.cfg t)
    (hok : ∀ t ∈ ts, ∀ i, decodeCommand w = .ok i → ¬ TouchMeets s.hu i t) : ∃ t, step s = .next t := by
  have hfetch := fetch_event hw hi
  cases hd : decodeCommand w with
  | error e =>
    have hm := hostMeanwhile_dutiful none ts { s with inbox := rest } hex (fun _ _ _ h => nomatch h)
    exact ⟨_, step_of_stop (hfetch.trans (fetchCommand_illegal hd hm))⟩
  | ok i =>
    have hm := hostMeanwhile_dutiful (some i) ts { s with inbox := rest } hex
      (fun t ht j hj => hok t ht j (hd.trans (congrArg Except.ok (Option.some.inj hj))))
    obtain ⟨-, hhu, hcfg, -, -⟩ := hostMeanwhile_registers (some i) _ hm
    obtain ⟨htables, hregion⟩ := hardware_of_inv hinv
    rw [step_of_run (hfetch.trans (fetchCommand_legal hd hm))]
    exact exec_next i (by rw [hcfg]; exact htables) (by rw [regionInside, hhu, hcfg]; exact hregion)

/-- Settles O49, one kind of step after the other. -/
theorem stepNeverStopsADutifulHost : Obligations.StepNeverStopsADutifulHost := by
  intro s hinv hduty
  cases hw : s.hu.walk with
  | some c => exact step_next_insideHnext hinv hw
  | none =>
    rcases hduty with hin | hidle | ⟨rest, hreset⟩ | ⟨t, rest, htouch, hex⟩ | ⟨w, ts, rest, hcmd, hts⟩
    · exact absurd hw hin
    · exact ⟨_, step_of_stop (fetch_idle hw hidle)⟩
    · exact ⟨_, step_of_stop (fetch_event hw hreset)⟩
    · exact step_next_touch hw htouch hex
    · exact step_next_command hinv hw hcmd (fun t ht => (hts t ht).1) (fun t ht => (hts t ht).2)

/-! ### The units are independent

A command that neither reads nor writes a part of the state commutes with replacing that part. That it does not write it is
then the case in which the part is replaced by itself. -/

/-- The state with the registers of the HU and `IN` replaced. -/
def withHuffmanSide (hu : HU) (inp : List Host.Cell) (s : State) : State := { s with hu := hu, inp := inp }

/-- The state with the registers of the PU and `BUF` replaced. -/
def withPredictorSide (pu : PU) (buf : List Host.Cell) (s : State) : State := { s with pu := pu, buf := buf }

/-- A command that commutes with every replacement of the HU and `IN` writes neither. -/
theorem frame_of_commutes_huffmanSide {i : Instr} {s t : State}
    (hcomm : ∀ hu inp, exec i (withHuffmanSide hu inp s) = mapNext (withHuffmanSide hu inp) (exec i s))
    (h : exec i s = .next t) : t.hu = s.hu ∧ t.inp = s.inp := by
  have hself := hcomm s.hu s.inp
  rw [show withHuffmanSide s.hu s.inp s = s from rfl, h] at hself
  have ht : t = withHuffmanSide s.hu s.inp t := Host.Outcome.next.inj hself
  rw [ht]
  exact ⟨rfl, rfl⟩

/-- A command that commutes with every replacement of the PU and `BUF` writes neither. -/
theorem frame_of_commutes_predictorSide {i : Instr} {s t : State}
    (hcomm : ∀ pu buf, exec i (withPredictorSide pu buf s) = mapNext (withPredictorSide pu buf) (exec i s))
    (h : exec i s = .next t) : t.pu = s.pu ∧ t.buf = s.buf := by
  have hself := hcomm s.pu s.buf
  rw [show withPredictorSide s.pu s.buf s = s from rfl, h] at hself
  have ht : t = withPredictorSide s.pu s.buf t := Host.Outcome.next.inj hself
  rw [ht]
  exact ⟨rfl, rfl⟩

/-! Each command is a tree of branches. Replacing the other unit's side leaves every condition as it is, so `mapNext` passes
through the tree to the answers at its ends. The commands of the TR and the PU beside the HU and `IN`: -/

theorem exec_resolve_withHuffmanSide (kind : Kind) (bits : BitVec 16) (hu : HU) (inp : List Host.Cell) (s : State) :
    exec (.resolve kind bits) (withHuffmanSide hu inp s) =
      mapNext (withHuffmanSide hu inp) (exec (.resolve kind bits) s) := by
  simp only [exec, execResolve]
  cases resolveType kind bits with
  | none => rfl
  | some r => rfl

theorem exec_pcreate_withHuffmanSide (kind : Kind) (bits : BitVec 16) (order : ByteOrder) (spp width : Word)
    (hu : HU) (inp : List Host.Cell) (s : State) :
    exec (.pcreate kind bits order spp width) (withHuffmanSide hu inp s) =
      mapNext (withHuffmanSide hu inp) (exec (.pcreate kind bits order spp width) s) := by
  simp only [exec, execPcreate]
  cases resolveType kind bits with
  | none => rfl
  | some r =>
    simp only [apply_ite (mapNext _)]
    rfl

theorem exec_preverse_withHuffmanSide (start stop : Word) (hu : HU) (inp : List Host.Cell) (s : State) :
    exec (.preverse start stop) (withHuffmanSide hu inp s) =
      mapNext (withHuffmanSide hu inp) (exec (.preverse start stop) s) := by
  simp only [exec, execPreverse, apply_ite (mapNext _)]
  rfl

/-! The commands of the HU and the code words beside the PU and `BUF`: -/

theorem exec_hregion_withPredictorSide (offset count : Word) (pu : PU) (buf : List Host.Cell) (s : State) :
    exec (.hregion offset count) (withPredictorSide pu buf s) =
      mapNext (withPredictorSide pu buf) (exec (.hregion offset count) s) := by
  simp only [exec, execHregion, apply_ite (mapNext _)]
  rfl

theorem exec_hline_withPredictorSide (pu : PU) (buf : List Host.Cell) (s : State) :
    exec .hline (withPredictorSide pu buf s) = mapNext (withPredictorSide pu buf) (exec .hline s) := by
  simp only [exec, execHline, apply_ite (mapNext _)]
  rfl

/-- The trie and the unread bits that `HNEXT` decodes are those of the HU's side. -/
theorem exec_hnext_withPredictorSide (sel : Sel) (pu : PU) (buf : List Host.Cell) (s : State) :
    exec (.hnext sel) (withPredictorSide pu buf s) = mapNext (withPredictorSide pu buf) (exec (.hnext sel) s) := by
  have hbits : unreadBits (withPredictorSide pu buf s) = unreadBits s := rfl
  have hrom : rom (withPredictorSide pu buf s).cfg.tables (selColor (withPredictorSide pu buf s).hu.color sel) =
    rom s.cfg.tables (selColor s.hu.color sel) := rfl
  simp only [exec, execHnext, apply_ite (mapNext _), hbits, hrom]
  cases rom s.cfg.tables (selColor s.hu.color sel) with
  | none => rfl
  | some t =>
    cases hd : decodeRun t 0 0 0 (unreadBits s) with
    | done run used => simp only [hd]; rfl
    | failed st acc used => simp only [hd]; rfl

theorem addRun_withPredictorSide (run len : Nat) (pu : PU) (buf : List Host.Cell) (s : State) :
    addRun run len (withPredictorSide pu buf s) = withPredictorSide pu buf (addRun run len s) := by
  simp only [addRun, apply_ite (withPredictorSide pu buf)]
  rfl

theorem exec_codeWord_withPredictorSide {i : Instr} {c : Color} {v : Nat} (h : i.codeWord? = some (c, v)) (pu : PU)
    (buf : List Host.Cell) (s : State) :
    exec i (withPredictorSide pu buf s) = mapNext (withPredictorSide pu buf) (exec i s) := by
  have htables : (withPredictorSide pu buf s).cfg.tables = s.cfg.tables := rfl
  simp only [exec_codeWord _ h, runWord, addRun_withPredictorSide, htables]
  cases codeRow? s.cfg.tables c v with
  | none => rfl
  | some row => rfl

/-- No command of the PU or the TR reads or writes a register of the HU or `IN` (spec 00_scope R3). -/
theorem exec_withHuffmanSide {i : Instr}
    (hi : (∃ k n, i = .resolve k n) ∨ (∃ k n o p w, i = .pcreate k n o p w) ∨ ∃ a b, i = .preverse a b)
    (hu : HU) (inp : List Host.Cell) (s : State) :
    exec i (withHuffmanSide hu inp s) = mapNext (withHuffmanSide hu inp) (exec i s) := by
  rcases hi with ⟨k, n, rfl⟩ | ⟨k, n, o, p, w, rfl⟩ | ⟨a, b, rfl⟩
  · exact exec_resolve_withHuffmanSide k n hu inp s
  · exact exec_pcreate_withHuffmanSide k n o p w hu inp s
  · exact exec_preverse_withHuffmanSide a b hu inp s

/-- No command of the HU and no code word reads or writes a register of the PU or `BUF` (spec 00_scope R3). -/
theorem exec_withPredictorSide {i : Instr}
    (hi : (∃ o c, i = .hregion o c) ∨ i = .hline ∨ (∃ sel, i = .hnext sel) ∨ i.codeWord? ≠ none)
    (pu : PU) (buf : List Host.Cell) (s : State) :
    exec i (withPredictorSide pu buf s) = mapNext (withPredictorSide pu buf) (exec i s) := by
  rcases hi with ⟨o, c, rfl⟩ | rfl | ⟨sel, rfl⟩ | hword
  · exact exec_hregion_withPredictorSide o c pu buf s
  · exact exec_hline_withPredictorSide pu buf s
  · exact exec_hnext_withPredictorSide sel pu buf s
  · obtain ⟨⟨c, v⟩, hcv⟩ := Option.ne_none_iff_exists'.1 hword
    exact exec_codeWord_withPredictorSide hcv pu buf s

/-- Settles O50: each unit's commands commute with replacing the other unit's registers and memory. -/
theorem unitsAreIndependent : Obligations.UnitsAreIndependent := by
  refine ⟨fun i s t hu' inp' hi h => ?_, fun i s t pu' buf' hi h => ?_⟩
  · have hcomm := fun hu inp => exec_withHuffmanSide hi hu inp s
    obtain ⟨hhu, hinp⟩ := frame_of_commutes_huffmanSide hcomm h
    exact ⟨hhu, hinp, (hcomm hu' inp').trans (congrArg _ h)⟩
  · have hcomm := fun pu buf => exec_withPredictorSide hi pu buf s
    obtain ⟨hpu, hbuf⟩ := frame_of_commutes_predictorSide hcomm h
    exact ⟨hpu, hbuf, (hcomm pu' buf').trans (congrArg _ h)⟩

end Sys2Proof.Machine

/-! SUPPORT. Proofs of the statements about the state (spec 10_state): what a step keeps, what no command reads, which command
writes which register, and what reset leaves. -/

namespace Sys2Proof.Machine
open Sys2Proof

/-! ### The word that a walk through a ROM finds is the row of its table -/

@[simp] theorem toBits_length (n x : Nat) : (toBits n x).length = n := by
  induction n with
  | zero => rfl
  | succ n ih => rw [toBits, List.length_cons, ih]

/-- The printed images are those the construction gives, so every ROM is built from its table (spec 31_code_tables R132,
R133). -/
theorem rom_eq_buildRom (tables : CodeTables) (c : Color) : rom tables c = buildRom (codeTable tables c) := by
  cases tables with
  | standard => cases c <;> decide +kernel
  | configured white black => cases c <;> rfl

/-- Entering a row leaves an internal node internal. -/
theorem insert_node_eq_node {c0 c1 t : Trie} {p : List Bool} {v : Nat} (h : (Trie.node c0 c1).insert p v = some t) :
    ∃ d0 d1, t = .node d0 d1 := by
  cases p with
  | nil => cases h
  | cons b bs =>
    cases b <;>
      · obtain ⟨u, -, rfl⟩ := Option.map_eq_some_iff.1 h
        exact ⟨_, _, rfl⟩

theorem insertAll_node_eq_node {rows : List CodeRow} {c0 c1 t : Trie}
    (h : (Trie.node c0 c1).insertAll rows = some t) : ∃ d0 d1, t = .node d0 d1 := by
  induction rows generalizing c0 c1 with
  | nil => cases h; exact ⟨_, _, rfl⟩
  | cons r rs ih =>
    obtain ⟨u, hu, hrs⟩ := Option.bind_eq_some_iff.1 h
    obtain ⟨d0, d1, rfl⟩ := insert_node_eq_node hu
    exact ih hrs

/-- The path a walk through a trie takes to a leaf begins the bits and is as long as the bits read. -/
theorem trieWalk_leaf {c0 c1 : Trie} {used v u : Nat} {bits : List Bool}
    (h : (Trie.node c0 c1).walkFrom used bits = .leaf v u) :
    ∃ q, (Trie.node c0 c1).leafAt q = some v ∧ u = used + q.length ∧ q <+: bits := by
  induction bits generalizing c0 c1 used with
  | nil => cases h
  | cons b rest ih =>
    rw [Trie.walkFrom] at h
    cases hc : (if b then c1 else c0) with
    | absent => simp [hc] at h
    | leaf w =>
      obtain ⟨rfl, rfl⟩ : w = v ∧ used + 1 = u := by simpa [hc] using h
      exact ⟨[b], by simp [Trie.leafAt, hc], rfl, by simp⟩
    | node d0 d1 =>
      simp only [hc] at h
      obtain ⟨q, hq, rfl, hpre⟩ := ih h
      exact ⟨b :: q, by simpa [Trie.leafAt, hc] using hq, by rw [List.length_cons]; omega, by simpa using hpre⟩

/-- A leaf that a walk reaches is a row of the table, its pattern the bits read (spec 42_huffman R196, R203). -/
theorem row_of_walk_leaf {tables : CodeTables} {c : Color} {t : List RomEntry} {bits : List Bool} {run used : Nat}
    (ht : rom tables c = some t) (h : walk t bits = .leaf run used) :
    ∃ r ∈ codeTable tables c, r.run = run ∧ r.len = used ∧ r.pattern <+: bits := by
  rw [rom_eq_buildRom] at ht
  obtain ⟨trie, htrie, himage⟩ := Option.bind_eq_some_iff.1 ht
  obtain ⟨c0, c1, rfl⟩ := insertAll_node_eq_node htrie
  rw [walk_image bits himage] at h
  obtain ⟨q, hq, hused, hpre⟩ := trieWalk_leaf h
  rcases (leafAt_insertAll htrie q run).1 hq with hroot | ⟨r, hr, rfl, hrun⟩
  · cases q with
    | nil => cases hroot
    | cons b bs => simp [Trie.leafAt] at hroot
  · exact ⟨r, hr, hrun, by simpa [CodeRow.pattern] using hused.symm, hpre⟩

/-- The code words of a colour, in the order of the table, are those of the run lengths of the table. -/
theorem codeWord?_codeWords (c : Color) :
    (codeWords c).map Instr.codeWord? = tableRuns.map fun v => some (c, v) := by
  cases c <;> decide

/-- The code word of a run length stands for that run length (spec 30_encoding R103). -/
theorem codeWord?_wordInstr {c : Color} {run : Nat} {i : Instr} (h : wordInstr c run = some i) :
    i.codeWord? = some (c, run) := by
  have key : ∀ k v : Nat, (codeWords c)[k]? = some i → tableRuns[k]? = some v → i.codeWord? = some (c, v) := by
    intro k v hi hv
    have hk := congrArg (·[k]?) (codeWord?_codeWords c)
    simpa [hi, hv] using hk
  have hlen : ∀ k : Nat, (codeWords c)[k]? = some i → k < 104 := by
    intro k hk
    have hlt := (List.getElem?_eq_some_iff.1 hk).1
    cases c <;> exact hlt
  unfold wordInstr at h
  split at h
  next hterm => exact key run run h (by
    rw [tableRuns, List.getElem?_append_left (by simpa using hterm), List.getElem?_range hterm])
  next hterm =>
    split at h
    next hmakeup =>
      have hlt := hlen _ h
      refine key _ run h ?_
      rw [tableRuns, List.getElem?_append_right (by simp; omega)]
      simp only [List.length_range, List.getElem?_map, List.getElem?_range (show 63 + run / 64 - 64 < 40 by omega)]
      simp only [Option.map_some, Option.some.injEq]
      omega
    next => cases h

/-- The code word that a stream begins with is a row of the table, and its bits are there. -/
theorem row_of_decodeWord {tables : CodeTables} {c : Color} {bits : List Bool} {i : Instr} {used : Nat}
    (hw : tablesWellFormed tables = true) (h : decodeWord tables c bits = .ok (i, used)) :
    ∃ v row, i.codeWord? = some (c, v) ∧ codeRow? tables c v = some row ∧ row.len ≤ bits.length := by
  unfold decodeWord at h
  split at h
  · cases h
  next t ht =>
    split at h
    next run u hleaf =>
      split at h
      next j hj =>
        cases h
        obtain ⟨r, hr, rfl, -, hpre⟩ := row_of_walk_leaf ht hleaf
        have hlen : r.len ≤ bits.length := by simpa [CodeRow.pattern] using hpre.length_le
        exact ⟨r.run, r, codeWord?_wordInstr hj, codeRow?_of_mem hw hr, hlen⟩
      · cases h
    · cases h
    · cases h

/-! ### No walk and no run reads past the last bit -/

/-- The number of bits a walk has read. -/
def WalkEnd.used : WalkEnd → Nat
  | .leaf _ used => used
  | .noPath used => used
  | .endOfInput used => used

/-- The number of bits a run has read. -/
def RunEnd.used : RunEnd → Nat
  | .done _ used => used
  | .failed _ _ used => used

theorem walkFrom_used_le (t : List RomEntry) (node used : Nat) (bits : List Bool) :
    (walkFrom t node used bits).used ≤ used + bits.length := by
  induction bits generalizing node used with
  | nil => exact Nat.le_refl _
  | cons b rest ih =>
    rw [walkFrom, List.length_cons]
    cases lookupStep t node b with
    | leaf v => show used + 1 ≤ _; omega
    | absent => show used + 1 ≤ _; omega
    | node j => have := ih j (used + 1); show (walkFrom t j (used + 1) rest).used ≤ _; omega

theorem walk_used_le (t : List RomEntry) (bits : List Bool) : (walk t bits).used ≤ bits.length := by
  simpa [walk] using walkFrom_used_le t 0 0 bits

theorem decodeRun_used_le (t : List RomEntry) (node acc used : Nat) (bits : List Bool) :
    (decodeRun t node acc used bits).used ≤ used + bits.length := by
  induction bits generalizing node acc used with
  | nil => exact Nat.le_refl _
  | cons b rest ih =>
    rw [decodeRun, List.length_cons]
    cases lookupStep t node b with
    | absent => show used + 1 ≤ _; omega
    | node j => have := ih j acc (used + 1); show (decodeRun t j acc (used + 1) rest).used ≤ _; omega
    | leaf v =>
      have := ih 0 (acc + v) (used + 1)
      dsimp only
      split
      · show used + 1 ≤ _; omega
      · split
        · show used + 1 ≤ _; omega
        · omega

/-- The codes that a code word or its absence can give (spec 42_huffman R204, R207, R208). -/
abbrev HnextCause (st : Status) : Prop := st = .corrupt ∨ st = .endOfInput ∨ st = .overflow

theorem decodeRun_cause {t : List RomEntry} {node acc used acc' used' : Nat} {bits : List Bool} {st : Status}
    (h : decodeRun t node acc used bits = .failed st acc' used') : HnextCause st := by
  induction bits generalizing node acc used with
  | nil => cases h; exact .inr (.inl rfl)
  | cons b rest ih =>
    rw [decodeRun] at h
    cases hl : lookupStep t node b with
    | absent => simp only [hl] at h; cases h; exact .inl rfl
    | node j => simp only [hl] at h; exact ih h
    | leaf v =>
      simp only [hl] at h
      split at h
      · cases h; exact .inr (.inr rfl)
      · split at h
        · cases h
        · exact ih h

/-! ### The invariant of the Huffman unit -/

theorem huInv_reset (cfg : Params) : HUInv cfg HU.reset :=
  ⟨fun _ => rfl, Nat.zero_le _, Nat.le_refl _, nofun, fun _ _ => rfl⟩

/-- Inside an `HNEXT` there is a region and no latched fault. -/
theorem huInv_walking {cfg : Params} {hu : HU} {c : Color} (h : HUInv cfg hu) (hw : hu.walk = some c) :
    hu.hvalid = true ∧ hu.hfault = false := by
  obtain ⟨hreset, -, -, hlatch, -⟩ := h
  constructor
  · refine Bool.eq_true_of_not_eq_false fun hv => ?_
    rw [hreset hv] at hw
    cases hw
  · refine Bool.eq_false_of_not_eq_true fun hf => ?_
    rw [(hlatch hf).1] at hw
    cases hw

/-- The cursor stays inside the region when no more bits are read than are unread (spec 10_state R39). -/
theorem bitcur_add_le {s : State} {used : Nat} (hcursor : s.hu.bitcur ≤ 8 * s.hu.rcount.toNat)
    (hused : used ≤ (unreadBits s).length) : s.hu.bitcur + used ≤ 8 * s.hu.rcount.toNat := by
  rw [unreadBits_length] at hused
  omega

/-- A fault of the code words leaves the latch with a cause of `HNEXT` and no command under way (spec 10_state R37). -/
theorem huInv_huFail {s : State} {used : Nat} {st : Status} (acc : Nat) (h : HUInv s.cfg s.hu)
    (hv : s.hu.hvalid = true) (hused : used ≤ (unreadBits s).length) (hst : HnextCause st) :
    HUInv s.cfg (huFail st acc (advanceBits used s)).hu := by
  obtain ⟨-, hregion, hcursor, -, -⟩ := h
  exact ⟨fun hn => by simp [hv] at hn, hregion, bitcur_add_le hcursor hused, fun _ => ⟨rfl, hst⟩, nofun⟩

/-- The end of a run leaves `acc = 0` and no command under way (spec 10_state R36). -/
theorem huInv_huFinish {s : State} {used : Nat} (run : Nat) (h : HUInv s.cfg s.hu)
    (hv : s.hu.hvalid = true) (hf : s.hu.hfault = false) (hused : used ≤ (unreadBits s).length) :
    HUInv s.cfg (huFinish run (advanceBits used s)).hu := by
  obtain ⟨-, hregion, hcursor, -, -⟩ := h
  exact ⟨fun hn => by simp [hv] at hn, hregion, bitcur_add_le hcursor hused, fun hn => by simp [hf] at hn,
    fun _ _ => rfl⟩

/-- A code word inside an `HNEXT` keeps the HU's invariant when its bits are there. -/
theorem huInv_addRun {s : State} {c : Color} {len : Nat} (run : Nat) (h : HUInv s.cfg s.hu) (hw : s.hu.walk = some c)
    (hlen : len ≤ (unreadBits s).length) : HUInv s.cfg (addRun run len s).hu := by
  obtain ⟨hv, hf⟩ := huInv_walking h hw
  rcases addRun_cases run len s with ⟨-, heq⟩ | ⟨-, -, heq⟩ | ⟨-, -, heq⟩
  · rw [heq]
    exact huInv_huFail _ h hv hlen (.inr (.inr rfl))
  · rw [heq]
    exact huInv_huFinish _ h hv hf hlen
  · rw [heq]
    obtain ⟨-, hregion, hcursor, -, -⟩ := h
    exact ⟨fun hn => by simp [hv] at hn, hregion, bitcur_add_le hcursor hlen, fun hn => by simp [hf] at hn,
      fun _ hn => by simp [hw] at hn⟩

/-- A code word writes no register but those of the HU and the response. -/
theorem addRun_frame (run len : Nat) (s : State) :
    (addRun run len s).pu = s.pu ∧ (addRun run len s).buf = s.buf ∧ (addRun run len s).inp = s.inp ∧
      (addRun run len s).cfg = s.cfg := by
  rcases addRun_cases run len s with ⟨-, heq⟩ | ⟨-, -, heq⟩ | ⟨-, -, heq⟩ <;> rw [heq] <;> exact ⟨rfl, rfl, rfl, rfl⟩

/-! ### The invariant of the predictor unit -/

/-- A sample value has no bit above its size (spec 10_state R31). -/
abbrev SampleFits (size : Nat) (v : Sample) : Prop := v.toNat < 2 ^ (8 * size)

theorem loadSample_fits (o : ByteOrder) (size : Nat) (m : List Host.Cell) (pos : Nat) :
    SampleFits size (loadSample o size m pos) := by
  have h := leNat_lt (orderBytes o (readBytes .buf m pos size))
  rw [orderBytes_length, readBytes_length] at h
  rw [SampleFits, pow_mul]
  exact lt_of_le_of_lt (by rw [loadSample, BitVec.toNat_ofNat]; exact Nat.mod_le _ _) h

theorem setWidth_fits {n : Nat} (hn : n ≤ 64) (x : BitVec n) : (x.setWidth 64).toNat < 2 ^ n := by
  rw [BitVec.toNat_setWidth_of_le hn]
  exact x.isLt

/-- A sum has the width of its variant (spec 41_predictor R168 to R173). -/
theorem sampleAdd_fits (impl : FloatAdd) (v : Variant) (d prev : Sample) :
    SampleFits (variantSize v).toNat (sampleAdd impl v d prev) := by
  cases v with
  | i8 => exact setWidth_fits (n := 8) (by decide) _
  | i16 => exact setWidth_fits (n := 16) (by decide) _
  | i32 => exact setWidth_fits (n := 32) (by decide) _
  | f32 => exact setWidth_fits (n := 32) (by decide) _
  | i64 => exact BitVec.isLt _
  | f64 => exact BitVec.isLt _

theorem variantSize_pos (v : Variant) : 0 < (variantSize v).toNat := by cases v <;> decide

/-- A resolved type has the size of its variant (spec 40_resolver R141, 10_state R25). -/
theorem resolveType_size {kind : Kind} {bits : BitVec 16} {t : Resolved} (h : resolveType kind bits = some t) :
    t.size = variantSize t.variant := by
  cases kind <;>
    · simp only [resolveType] at h
      repeat' split at h
      all_goals cases h
      all_goals rfl

theorem geomOK_iff (maxBands size spp width : Nat) :
    geomOK maxBands size spp width = true ↔
      1 ≤ spp ∧ spp ≤ maxBands ∧ 2 ≤ width ∧ spp * size < 2 ^ 32 ∧ width * (spp * size) < 2 ^ 32 := by
  simp only [geomOK, Bool.and_eq_true, decide_eq_true_eq, and_assoc]
  omega

theorem puInv_reset (cfg : Params) : PUInv cfg PU.reset := ⟨nofun, fun _ => rfl⟩

/-- What `PCREATE` builds has the geometry it was checked for: no product is cut off (spec 40_resolver R146, R147). -/
theorem puInv_newInstance {cfg : Params} {kind : Kind} {bits : BitVec 16} {t : Resolved} {spp width : Word}
    (order : ByteOrder) (ht : resolveType kind bits = some t)
    (hg : geomOK cfg.maxBands.toNat t.size.toNat spp.toNat width.toNat = true) :
    PUInv cfg (newInstance t order spp width) := by
  refine ⟨fun _ => ?_, nofun⟩
  obtain ⟨hspp, hbands, hwidth, hpixel, hline⟩ := (geomOK_iff _ _ _ _).1 hg
  have hsize : 0 < t.size.toNat := by rw [resolveType_size ht]; exact variantSize_pos _
  have hstride : (newInstance t order spp width).pixelStride.toNat = spp.toNat * t.size.toNat :=
    Nat.mod_eq_of_lt hpixel
  have hscan : (newInstance t order spp width).scanlineStride.toNat = width.toNat * (spp.toNat * t.size.toNat) :=
    Nat.mod_eq_of_lt hline
  refine ⟨resolveType_size ht, hspp, hbands, hwidth, hstride, by rw [hscan, hstride]; rfl, Nat.zero_mod _, ?_,
    List.length_replicate .., fun v hv => ?_⟩
  · rw [hscan]
    exact Nat.mul_pos (by omega) (Nat.mul_pos (by omega) hsize)
  · rw [List.eq_of_mem_replicate hv]
    exact Nat.two_pow_pos _

/-- What a pass keeps: the memory in its form and inside `BUF`, a carry value that fits for each band. -/
structure PassInv (bufSize : Nat) (pu : PU) (p : Pass) : Prop where
  memWf : memWf p.buf = true
  memInside : memInside bufSize p.buf = true
  bands : p.saved.length = pu.samplesPerPixel.toNat
  fits : ∀ v ∈ p.saved, SampleFits pu.sampleSize.toNat v

theorem savedSet_fits {size band : Nat} {saved : List Sample} {v : Sample} (hv : SampleFits size v)
    (h : ∀ u ∈ saved, SampleFits size u) : ∀ u ∈ savedSet saved band v, SampleFits size u := fun u hu =>
  (List.mem_or_eq_of_mem_set hu).elim (h u) fun he => he ▸ hv

/-- One sample, in a state whose sample size is that of its variant, when its bytes exist. -/
theorem passInv_reverseSample (impl : FloatAdd) {bufSize : Nat} {pu : PU} {a k : Nat} {p : Pass}
    (hsize : pu.sampleSize = variantSize pu.variant)
    (hin : a + k * pu.sampleSize.toNat + pu.sampleSize.toNat ≤ bufSize) (h : PassInv bufSize pu p) :
    PassInv bufSize pu (reverseSample impl pu a k p) := by
  have hsum : ∀ d prev, SampleFits pu.sampleSize.toNat (sampleAdd impl pu.variant d prev) := by
    rw [hsize]; exact sampleAdd_fits impl pu.variant
  refine ⟨memWf_reverseSample _ _ _ _ _ h.memWf, ?_, ?_, ?_⟩ <;> simp only [reverseSample] <;> split
  · exact h.memInside
  · exact memInside_storeSample _ _ _ _ _ hin h.memInside
  · rw [savedSet_length, h.bands]
  · rw [savedSet_length, h.bands]
  · exact savedSet_fits (loadSample_fits _ _ _ _) h.fits
  · exact savedSet_fits (hsum _ _) h.fits

/-- A whole pass, when the bytes of its samples exist. -/
theorem passInv_reversePass (impl : FloatAdd) {bufSize : Nat} {pu : PU} {a n : Nat} {p : Pass}
    (hsize : pu.sampleSize = variantSize pu.variant) (hin : a + n * pu.sampleSize.toNat ≤ bufSize)
    (h : PassInv bufSize pu p) : PassInv bufSize pu (reversePass impl pu a n 0 p) := by
  induction n with
  | zero => exact h
  | succ n ih =>
    rw [Nat.succ_mul, ← Nat.add_assoc] at hin
    rw [reversePass_succ, Nat.zero_add]
    exact passInv_reverseSample impl hsize hin (ih (by omega))

/-- The row offset is inside the row and at the start of a sample (spec 10_state R30). -/
theorem rowOffset_column {cfg : Params} {pu : PU} (h : PUInstance cfg pu) (k : Nat) :
    (BitVec.ofNat 32 (rowOffset pu k)).toNat % pu.sampleSize.toNat = 0 ∧
      (BitVec.ofNat 32 (rowOffset pu k)).toNat < pu.scanlineStride.toNat := by
  obtain ⟨-, -, -, -, hstride, hscan, hcolumn, hlt, -, -⟩ := h
  have hoffset : rowOffset pu k < pu.scanlineStride.toNat := Nat.mod_lt _ (by omega)
  have hword : (BitVec.ofNat 32 (rowOffset pu k)).toNat = rowOffset pu k :=
    Nat.mod_eq_of_lt (hoffset.trans pu.scanlineStride.isLt)
  have hdvd : pu.sampleSize.toNat ∣ pu.scanlineStride.toNat := by
    rw [hscan, hstride]
    exact (Dvd.intro_left _ rfl).mul_left _
  rw [hword]
  refine ⟨?_, hoffset⟩
  rw [rowOffset, Nat.mod_mod_of_dvd _ hdvd, Nat.add_mul_mod_self_right, hcolumn]

/-- The complete samples of a region end inside it. -/
theorem sampleCount_mul_le (pu : PU) {a b : Nat} (h : a ≤ b) : a + sampleCount pu a b * pu.sampleSize.toNat ≤ b := by
  have := Nat.div_mul_le_self (b - a) pu.sampleSize.toNat
  unfold sampleCount
  omega

/-! ### The invariant of the memories -/

theorem memInv_touchState {s : State} {t : HostTouch} (ht : TouchExists s.cfg t) (h : MemInv s) :
    MemInv (touchState s t) := by
  obtain ⟨hbw, hbi, hiw, hii⟩ := h
  obtain ⟨hbw', hiw'⟩ := touchState_memWf s t hbw hiw
  cases t with
  | readBuf pos count => exact ⟨hbw, hbi, hiw, hii⟩
  | readIn offset count => exact ⟨hbw, hbi, hiw, hii⟩
  | writeBuf pos bytes => exact ⟨hbw', memInside_writeBytes _ _ _ ht hbi, hiw', hii⟩
  | writeIn offset bytes => exact ⟨hbw', hbi, hiw', memInside_writeBytes _ _ _ ht hii⟩

/-! ### What each kind of step keeps -/

/-- A state keeps the invariant and the build of the one before. -/
abbrev KeepsInv (s t : State) : Prop := Inv t ∧ t.cfg = s.cfg

theorem keepsInv_trans {s t u : State} (hst : KeepsInv s t) (htu : KeepsInv t u) : KeepsInv s u :=
  ⟨htu.1, htu.2.trans hst.2⟩

theorem keepsInv_respond {s : State} (h : Inv s) (st : Status) (aux : BitVec 8) (r : Word) :
    KeepsInv s (respond st aux r s) := ⟨h, rfl⟩

theorem huInv_of_inv {s : State} (h : Inv s) : HUInv s.cfg s.hu := h.2.2.1

/-- A step that writes no register but those of the HU and the response has only the HU's invariant to keep. -/
theorem keepsInv_of_hu {s t : State} (h : Inv s) (hhu : HUInv s.cfg t.hu) (hpu : t.pu = s.pu) (hbuf : t.buf = s.buf)
    (hinp : t.inp = s.inp) (hcfg : t.cfg = s.cfg) : KeepsInv s t := by
  obtain ⟨hwf, hpuInv, -, hmem⟩ := h
  rw [KeepsInv, Inv, MemInv, hpu, hbuf, hinp, hcfg]
  exact ⟨⟨hwf, hpuInv, hhu, hmem⟩, rfl⟩

theorem keepsInv_resolve {kind : Kind} {bits : BitVec 16} {s t : State} (h : Inv s)
    (ht : exec (.resolve kind bits) s = .next t) : KeepsInv s t := by
  rcases exec_resolve_cases kind bits s with ⟨-, heq⟩ | ⟨r, -, heq⟩ <;> cases heq.symm.trans ht <;>
    exact keepsInv_respond h _ _ _

theorem keepsInv_pcreate {kind : Kind} {bits : BitVec 16} {order : ByteOrder} {spp width : Word} {s t : State}
    (h : Inv s) (ht : exec (.pcreate kind bits order spp width) s = .next t) : KeepsInv s t := by
  obtain ⟨hcfg, -, hhu, hmem⟩ := h
  rcases exec_pcreate_cases kind bits order spp width s with ⟨-, heq⟩ | ⟨r, -, -, heq⟩ | ⟨r, hr, hg, heq⟩ <;>
    cases heq.symm.trans ht
  · exact ⟨⟨hcfg, puInv_reset _, hhu, hmem⟩, rfl⟩
  · exact ⟨⟨hcfg, puInv_reset _, hhu, hmem⟩, rfl⟩
  · exact ⟨⟨hcfg, puInv_newInstance order hr hg, hhu, hmem⟩, rfl⟩

/-- Only the pass and the new column matter: the geometry stays, and the samples end inside `BUF`. -/
theorem keepsInv_preverse {start stop : Word} {s t : State} (h : Inv s)
    (ht : exec (.preverse start stop) s = .next t) : KeepsInv s t := by
  rcases exec_preverse_cases start stop s with ⟨-, heq⟩ | ⟨-, -, heq⟩ | ⟨hv, hab, hb, cnt, p, rfl, rfl, heq⟩ <;>
    cases heq.symm.trans ht
  · exact keepsInv_respond h _ _ _
  · exact keepsInv_respond h _ _ _
  · obtain ⟨hcfg, ⟨hvalid, -⟩, hhu, hbw, hbi, hiw, hii⟩ := h
    have hinst := hvalid hv
    obtain ⟨hcol, hcolLt⟩ := rowOffset_column hinst (sampleCount s.pu start.toNat stop.toNat)
    obtain ⟨hsize, hspp, hbands, hwidth, hstride, hscan, -, -, hlen, hfits⟩ := hinst
    have hpass := passInv_reversePass s.cfg.fadd (p := ⟨s.buf, s.pu.saved⟩) hsize
      ((sampleCount_mul_le s.pu hab).trans hb) ⟨hbw, hbi, hlen, hfits⟩
    exact ⟨⟨hcfg, ⟨fun _ => ⟨hsize, hspp, hbands, hwidth, hstride, hscan, hcol, hcolLt, hpass.bands, hpass.fits⟩,
      fun hn => by simp [hv] at hn⟩, hhu, hpass.memWf, hpass.memInside, hiw, hii⟩, rfl⟩

theorem keepsInv_hregion {offset count : Word} {s t : State} (h : Inv s)
    (ht : exec (.hregion offset count) s = .next t) : KeepsInv s t := by
  rcases exec_hregion_cases offset count s with ⟨-, heq⟩ | ⟨hin, heq⟩ <;> cases heq.symm.trans ht
  · exact keepsInv_respond h _ _ _
  · exact keepsInv_of_hu h ⟨nofun, hin, Nat.zero_le _, nofun, fun _ _ => rfl⟩ rfl rfl rfl rfl

theorem keepsInv_hline {s t : State} (h : Inv s) (ht : exec .hline s = .next t) : KeepsInv s t := by
  rcases exec_hline_cases s with ⟨-, heq⟩ | ⟨-, -, heq⟩ | ⟨hv, hf, heq⟩ <;> cases heq.symm.trans ht
  · exact keepsInv_respond h _ _ _
  · exact keepsInv_respond h _ _ _
  · obtain ⟨-, hregion, hcursor, hlatch, -⟩ := huInv_of_inv h
    exact keepsInv_of_hu h ⟨fun hn => by simp [hv] at hn, hregion, hcursor, hlatch, fun _ _ => rfl⟩ rfl rfl rfl rfl

theorem keepsInv_hnext {sel : Sel} {s t : State} (h : Inv s) (ht : exec (.hnext sel) s = .next t) : KeepsInv s t := by
  have hbits := fun rom => decodeRun_used_le rom 0 0 0 (unreadBits s)
  rcases exec_hnext_cases sel s with ⟨-, heq⟩ | ⟨-, -, heq⟩ | ⟨-, -, -, heq⟩ | ⟨-, -, -, -, heq⟩ |
    ⟨hv, hf, -, rom, -, ⟨run, used, hd, heq⟩ | ⟨st, acc, used, hd, heq⟩⟩ <;> cases heq.symm.trans ht
  · exact keepsInv_respond h _ _ _
  · exact keepsInv_respond h _ _ _
  · have hused : used ≤ (unreadBits s).length := by simpa [hd, RunEnd.used] using hbits rom
    exact keepsInv_of_hu h (huInv_huFinish run (huInv_of_inv h) hv hf hused) rfl rfl rfl rfl
  · have hused : used ≤ (unreadBits s).length := by simpa [hd, RunEnd.used] using hbits rom
    exact keepsInv_of_hu h (huInv_huFail acc (huInv_of_inv h) hv hused (decodeRun_cause hd)) rfl rfl rfl rfl

/-- Every command keeps the invariant. (A code word outside an `HNEXT` need not: its bits need not be there.) -/
theorem keepsInv_command {i : Instr} {s t : State} (hi : i.codeWord? = none) (h : Inv s) (ht : exec i s = .next t) :
    KeepsInv s t := by
  cases instrShape i with
  | resolve kind bits => exact keepsInv_resolve h ht
  | pcreate kind bits order spp width => exact keepsInv_pcreate h ht
  | preverse start stop => exact keepsInv_preverse h ht
  | hregion offset count => exact keepsInv_hregion h ht
  | hline => exact keepsInv_hline h ht
  | hnext sel => exact keepsInv_hnext h ht
  | codeWord hword => cases hi.symm.trans hword

theorem keepsInv_addRun {s : State} {c : Color} {len : Nat} (run : Nat) (h : Inv s) (hw : s.hu.walk = some c)
    (hlen : len ≤ (unreadBits s).length) : KeepsInv s (addRun run len s) := by
  obtain ⟨hpu, hbuf, hinp, hcfg⟩ := addRun_frame run len s
  exact keepsInv_of_hu h (huInv_addRun run (huInv_of_inv h) hw hlen) hpu hbuf hinp hcfg

/-- Where no word is, the walk ends in a fault of `HNEXT` and has read unread bits only. -/
theorem walkFailed_eq (e : WalkEnd) (s : State) :
    ∃ st, HnextCause st ∧ walkFailed e s = huFail st s.hu.acc.toNat (advanceBits e.used s) := by
  cases e with
  | leaf run used => exact ⟨.corrupt, .inl rfl, rfl⟩
  | noPath used => exact ⟨.corrupt, .inl rfl, rfl⟩
  | endOfInput used => exact ⟨.endOfInput, .inr (.inl rfl), rfl⟩

/-- Inside an `HNEXT`: the word at the cursor is a row of the table whose bits are there, or the walk faults. -/
theorem keepsInv_insideHnext {s t : State} {c : Color} (h : Inv s) (hw : s.hu.walk = some c)
    (ht : step s = .next t) : KeepsInv s t := by
  obtain ⟨htables, -⟩ := hardware_of_inv h
  have hfetch := fetch_insideHnext hw
  rcases fetchWord_cases c s with ⟨-, heq⟩ | ⟨-, -, heq⟩ | ⟨-, rom, -, ⟨i, used, hd, heq⟩ | ⟨e, -, heq⟩⟩
  · cases (step_of_stop (hfetch.trans heq)).symm.trans ht
  · cases (step_of_stop (hfetch.trans heq)).symm.trans ht
  · obtain ⟨v, row, hword, hrow, hlen⟩ := row_of_decodeWord htables hd
    have hexec : exec i s = .next (addRun v row.len s) := by
      simp only [exec_codeWord s hword, runWord, hrow]
    cases ((step_of_run (hfetch.trans heq)).trans hexec).symm.trans ht
    exact keepsInv_addRun v h hw hlen
  · cases (step_of_stop (hfetch.trans heq)).symm.trans ht
    obtain ⟨hv, -⟩ := huInv_walking (huInv_of_inv h) hw
    obtain ⟨st, hst, hfail⟩ := walkFailed_eq (walk rom (unreadBits s)) s
    rw [hfail]
    exact keepsInv_of_hu h (huInv_huFail _ (huInv_of_inv h) hv (walk_used_le rom _) hst) rfl rfl rfl rfl

/-- A touch of memory by the host, between commands or during one. -/
theorem keepsInv_applyTouch {x : HostTouch} {s t : State} (h : Inv s) (ht : applyTouch x s = .next t) :
    KeepsInv s t := by
  obtain ⟨hex, rfl⟩ := applyTouch_next.1 ht
  obtain ⟨hcfg, hpu, hhu, hmem⟩ := h
  have hmem' := memInv_touchState ((touchFault?_eq_none_iff _ _).1 hex) hmem
  refine ⟨⟨?_, ?_, ?_, hmem'⟩, touchState_cfg s x⟩
  · rwa [touchState_cfg]
  · rwa [touchState_cfg, touchState_pu]
  · rwa [touchState_cfg, touchState_hu]

/-- Everything the first thing the host does during a command can lead to. -/
theorem hostMeanwhile_touch_next {i : Option Instr} {x : HostTouch} {ms : List Meanwhile} {s t : State}
    (ht : hostMeanwhile i (.touch x :: ms) s = .next t) :
    ∃ u, applyTouch x s = .next u ∧ hostMeanwhile i ms u = .next t := by
  rw [hostMeanwhile] at ht
  split at ht
  · cases ht
  · cases hx : applyTouch x s with
    | next u => simp only [hx] at ht; exact ⟨u, rfl, ht⟩
    | fault f => simp [hx] at ht
    | refused r => simp [hx] at ht

theorem keepsInv_hostMeanwhile {i : Option Instr} {ms : List Meanwhile} {s t : State} (h : Inv s)
    (ht : hostMeanwhile i ms s = .next t) : KeepsInv s t := by
  induction ms generalizing s with
  | nil => cases ht; exact ⟨h, rfl⟩
  | cons m ms ih =>
    cases m with
    | reset => cases ht
    | command w => cases ht
    | touch x =>
      obtain ⟨u, hu, hrest⟩ := hostMeanwhile_touch_next ht
      have hkeep := keepsInv_applyTouch h hu
      exact keepsInv_trans hkeep (ih hkeep.1 hrest)

/-- A command word is never a code word (spec 30_encoding R93). -/
theorem codeWord?_decodeCommand {w : CmdWord} {i : Instr} (h : decodeCommand w = .ok i) : i.codeWord? = none := by
  simp only [decodeCommand, decodeFields] at h
  repeat' split at h
  all_goals cases h
  all_goals rfl

/-- Everything a command word can lead to. -/
theorem fetchCommand_cases (w : CmdWord) (ms : List Meanwhile) (s : State) :
    (∃ i s', decodeCommand w = .ok i ∧ hostMeanwhile (some i) ms s = .next s' ∧ fetchCommand w ms s = .run i s') ∨
    (∃ s', hostMeanwhile none ms s = .next s' ∧
      fetchCommand w ms s = .stop (.next (respond .illegalCommand 0 0 s'))) ∨
    (∃ o, (∀ t, o ≠ .next t) ∧ fetchCommand w ms s = .stop o) := by
  cases hd : decodeCommand w with
  | ok i =>
    cases hm : hostMeanwhile (some i) ms s with
    | next s' => exact .inl ⟨i, s', rfl, hm, fetchCommand_legal hd hm⟩
    | fault f => exact .inr (.inr ⟨.fault f, fun _ => nofun, by simp only [fetchCommand, hd, hm]⟩)
    | refused r => exact .inr (.inr ⟨.refused r, fun _ => nofun, by simp only [fetchCommand, hd, hm]⟩)
  | error e =>
    cases hm : hostMeanwhile none ms s with
    | next s' => exact .inr (.inl ⟨s', rfl, fetchCommand_illegal hd hm⟩)
    | fault f => exact .inr (.inr ⟨.fault f, fun _ => nofun, by simp only [fetchCommand, hd, hm]⟩)
    | refused r => exact .inr (.inr ⟨.refused r, fun _ => nofun, by simp only [fetchCommand, hd, hm]⟩)

/-- What the host does next, between commands. -/
theorem keepsInv_event {s t : State} {e : HostEvent} {rest : List HostEvent} (h : Inv s) (hw : s.hu.walk = none)
    (hi : s.inbox = e :: rest) (ht : step s = .next t) : KeepsInv s t := by
  have htaken : Inv { s with inbox := rest } := h
  have hfetch := fetch_event hw hi
  cases e with
  | reset =>
    cases (step_of_stop hfetch).symm.trans ht
    obtain ⟨hcfg, -, -, hmem⟩ := h
    exact ⟨⟨hcfg, puInv_reset _, huInv_reset _, hmem⟩, rfl⟩
  | touch x =>
    have hkeep := keepsInv_applyTouch htaken ((step_of_stop hfetch).symm.trans ht)
    exact hkeep
  | command w ms =>
    rcases fetchCommand_cases w ms { s with inbox := rest } with ⟨i, s', hd, hm, heq⟩ | ⟨s', hm, heq⟩ | ⟨o, ho, heq⟩
    · have hkeep := keepsInv_hostMeanwhile htaken hm
      have hexec := (step_of_run (hfetch.trans heq)).symm.trans ht
      exact keepsInv_trans hkeep (keepsInv_command (codeWord?_decodeCommand hd) hkeep.1 hexec)
    · cases (step_of_stop (hfetch.trans heq)).symm.trans ht
      have hkeep := keepsInv_hostMeanwhile htaken hm
      exact hkeep
    · exact absurd ((step_of_stop (hfetch.trans heq)).symm.trans ht) (ho t)

/-- Settles O47, one kind of step after the other: a code word inside an `HNEXT`, an idle step, and what the host does. -/
theorem everyStepKeepsTheInvariant : Obligations.EveryStepKeepsTheInvariant := by
  intro s t hinv ht
  cases hw : s.hu.walk with
  | some c => exact keepsInv_insideHnext hinv hw ht
  | none =>
    cases hi : s.inbox with
    | nil =>
      cases (step_of_stop (fetch_idle hw hi)).symm.trans ht
      exact ⟨hinv, rfl⟩
    | cons e rest => exact keepsInv_event hinv hw hi ht


/-! ### No command reads a register that is unspecified in its state

The unspecified registers of a unit are out of reach of the other unit's commands (spec 00_scope R3). What is left is that no
command of the PU reads the PU's configuration while `pvalid = 0`, and none of the HU reads `hcause` while `hfault = 0`. -/

/-- The PU with its unspecified registers at their reset values. -/
def PU.forgotten (pu : PU) : PU := if pu.pvalid then pu else { PU.reset with column := pu.column, saved := pu.saved }

/-- The HU with its unspecified register at its reset value. -/
def HU.forgotten (hu : HU) : HU := { hu with hcause := if hu.hfault then hu.hcause else .ok }

theorem PU.forgotten_of_pvalid {pu : PU} (h : pu.pvalid = true) : pu.forgotten = pu := by
  rw [PU.forgotten, if_pos h]

theorem HU.forgotten_of_hfault {hu : HU} (h : hu.hfault = true) : hu.forgotten = hu := by
  rw [HU.forgotten, if_pos h]

@[simp] theorem PU.forgotten_pvalid (pu : PU) : pu.forgotten.pvalid = pu.pvalid := by
  cases h : pu.pvalid <;> simp [PU.forgotten, PU.reset, h]

theorem PU.forgotten_forgotten (pu : PU) : pu.forgotten.forgotten = pu.forgotten := by
  cases h : pu.pvalid <;> simp [PU.forgotten, PU.reset, h]

theorem HU.forgotten_forgotten (hu : HU) : hu.forgotten.forgotten = hu.forgotten := by
  cases h : hu.hfault <;> simp [HU.forgotten, h]

/-- A state with the unspecified registers of the PU forgotten. -/
def forgetPU (s : State) : State := withPredictorSide s.pu.forgotten s.buf s

/-- A state with the unspecified register of the HU forgotten. -/
def forgetHU (s : State) : State := withHuffmanSide s.hu.forgotten s.inp s

theorem forgetUnspecified_eq (s : State) : forgetUnspecified s = { s with pu := s.pu.forgotten, hu := s.hu.forgotten } :=
  rfl

theorem forgetUnspecified_eq_forgetPU (s : State) : forgetUnspecified s = forgetPU (forgetHU s) := rfl

theorem forgetUnspecified_eq_forgetHU (s : State) : forgetUnspecified s = forgetHU (forgetPU s) := rfl

/-- Commands of the HU and code words see nothing of the PU, forgotten or not. -/
theorem exec_forgetPU {i : Instr} (s : State)
    (hi : (∃ o c, i = .hregion o c) ∨ i = .hline ∨ (∃ sel, i = .hnext sel) ∨ i.codeWord? ≠ none) :
    mapNext forgetUnspecified (exec i (forgetPU s)) = mapNext forgetUnspecified (exec i s) := by
  have hcomm := fun pu buf => exec_withPredictorSide hi pu buf s
  rw [forgetPU, hcomm]
  cases ht : exec i s with
  | fault f => rfl
  | refused r => rfl
  | next t =>
    obtain ⟨hpu, hbuf⟩ := frame_of_commutes_predictorSide hcomm ht
    simp only [mapNext, forgetUnspecified_eq, withPredictorSide, PU.forgotten_forgotten, ← hpu, ← hbuf]

/-- Commands of the TR and the PU see nothing of the HU, forgotten or not. -/
theorem exec_forgetHU {i : Instr} (s : State)
    (hi : (∃ k n, i = .resolve k n) ∨ (∃ k n o p w, i = .pcreate k n o p w) ∨ ∃ a b, i = .preverse a b) :
    mapNext forgetUnspecified (exec i (forgetHU s)) = mapNext forgetUnspecified (exec i s) := by
  have hcomm := fun hu inp => exec_withHuffmanSide hi hu inp s
  rw [forgetHU, hcomm]
  cases ht : exec i s with
  | fault f => rfl
  | refused r => rfl
  | next t =>
    obtain ⟨hhu, hinp⟩ := frame_of_commutes_huffmanSide hcomm ht
    simp only [mapNext, forgetUnspecified_eq, withHuffmanSide, HU.forgotten_forgotten, ← hhu, ← hinp]

/-! The commands of the TR and the PU, the PU's registers forgotten: -/

theorem forgetUnspecified_respond_forgetPU (st : Status) (aux : BitVec 8) (r : Word) (s : State) :
    forgetUnspecified (respond st aux r (forgetPU s)) = forgetUnspecified (respond st aux r s) := by
  simp only [forgetUnspecified_eq, forgetPU, respond, withPredictorSide, PU.forgotten_forgotten]

theorem exec_resolve_forgetPU (kind : Kind) (bits : BitVec 16) (s : State) :
    mapNext forgetUnspecified (exec (.resolve kind bits) (forgetPU s)) =
      mapNext forgetUnspecified (exec (.resolve kind bits) s) := by
  simp only [exec, execResolve]
  cases resolveType kind bits <;> exact congrArg Host.Outcome.next (forgetUnspecified_respond_forgetPU _ _ _ s)

/-- `PCREATE` writes every register of the PU. -/
theorem exec_pcreate_forgetPU (kind : Kind) (bits : BitVec 16) (order : ByteOrder) (spp width : Word) (s : State) :
    exec (.pcreate kind bits order spp width) (forgetPU s) = exec (.pcreate kind bits order spp width) s := rfl

/-- While `pvalid = 0` `PREVERSE` answers `NOT_READY`; while `pvalid = 1` nothing of the PU is unspecified. -/
theorem exec_preverse_forgetPU (start stop : Word) (s : State) :
    mapNext forgetUnspecified (exec (.preverse start stop) (forgetPU s)) =
      mapNext forgetUnspecified (exec (.preverse start stop) s) := by
  cases hv : s.pu.pvalid with
  | true =>
    have hs : forgetPU s = s := by rw [forgetPU, PU.forgotten_of_pvalid hv]; rfl
    rw [hs]
  | false =>
    have hv' : (forgetPU s).pu.pvalid = false := (PU.forgotten_pvalid s.pu).trans hv
    simp only [exec, execPreverse, hv, hv', Bool.not_false, if_true, raise, mapNext,
      forgetUnspecified_respond_forgetPU]

/-! The commands of the HU and the code words, `hcause` replaced while no fault is latched: -/

/-- The state with `hcause` replaced. -/
def withCause (st : Status) (s : State) : State := { s with hu := { s.hu with hcause := st } }

theorem forgetUnspecified_withCause {s : State} (st : Status) (h : s.hu.hfault = false) :
    forgetUnspecified (withCause st s) = forgetUnspecified s := by
  simp [forgetUnspecified, withCause, h]

/-- An answer that leaves the HU as it is. -/
theorem forgetUnspecified_respond_withCause (st' : Status) (aux : BitVec 8) (r : Word) (st : Status) {s : State}
    (h : s.hu.hfault = false) :
    forgetUnspecified (respond st' aux r (withCause st s)) = forgetUnspecified (respond st' aux r s) :=
  forgetUnspecified_withCause (s := respond st' aux r s) st h

/-- `HREGION` leaves no fault latched. -/
theorem exec_hregion_withCause (offset count : Word) (st : Status) {s : State} (h : s.hu.hfault = false) :
    mapNext forgetUnspecified (exec (.hregion offset count) (withCause st s)) =
      mapNext forgetUnspecified (exec (.hregion offset count) s) := by
  simp only [exec, execHregion, apply_ite (mapNext _)]
  refine ite_congr rfl (fun _ => congrArg Host.Outcome.next ?_) (fun _ => rfl)
  exact forgetUnspecified_respond_withCause _ _ _ st h

theorem exec_hline_withCause (st : Status) {s : State} (h : s.hu.hfault = false) :
    mapNext forgetUnspecified (exec .hline (withCause st s)) = mapNext forgetUnspecified (exec .hline s) := by
  have h' : (withCause st s).hu.hfault = false := h
  simp only [exec, execHline, apply_ite (mapNext _), h, h', Bool.false_eq_true, if_false]
  refine ite_congr rfl (fun _ => congrArg Host.Outcome.next ?_) (fun _ => rfl)
  exact forgetUnspecified_respond_withCause _ _ _ st h

theorem forgetUnspecified_huFinish_withCause (run used : Nat) (st : Status) {s : State} (h : s.hu.hfault = false) :
    forgetUnspecified (huFinish run (advanceBits used (withCause st s))) =
      forgetUnspecified (huFinish run (advanceBits used s)) :=
  forgetUnspecified_withCause (s := huFinish run (advanceBits used s)) st h

/-- A fault of the code words writes `hcause`. -/
theorem huFail_withCause (st' : Status) (acc used : Nat) (st : Status) (s : State) :
    huFail st' acc (advanceBits used (withCause st s)) = huFail st' acc (advanceBits used s) := rfl

theorem exec_hnext_withCause (sel : Sel) (st : Status) {s : State} (h : s.hu.hfault = false) :
    mapNext forgetUnspecified (exec (.hnext sel) (withCause st s)) = mapNext forgetUnspecified (exec (.hnext sel) s) := by
  have h' : (withCause st s).hu.hfault = false := h
  have hbits : unreadBits (withCause st s) = unreadBits s := rfl
  have hrom : rom (withCause st s).cfg.tables (selColor (withCause st s).hu.color sel) =
    rom s.cfg.tables (selColor s.hu.color sel) := rfl
  simp only [exec, execHnext, apply_ite (mapNext _), h, h', hbits, hrom, Bool.false_eq_true, if_false]
  refine ite_congr rfl (fun _ => congrArg Host.Outcome.next ?_) (fun _ => ite_congr rfl (fun _ => rfl) fun _ => ?_)
  · exact forgetUnspecified_respond_withCause _ _ _ st h
  · cases rom s.cfg.tables (selColor s.hu.color sel) with
    | none => rfl
    | some t =>
      cases hd : decodeRun t 0 0 0 (unreadBits s) with
      | done run used =>
        simp only [hd, mapNext, forgetUnspecified_huFinish_withCause run used st h]
      | failed st' acc used => simp only [hd, huFail_withCause]

theorem forgetUnspecified_addRun_withCause (run len : Nat) (st : Status) {s : State} (h : s.hu.hfault = false) :
    forgetUnspecified (addRun run len (withCause st s)) = forgetUnspecified (addRun run len s) := by
  simp only [addRun, apply_ite forgetUnspecified]
  refine ite_congr rfl (fun _ => rfl) fun _ => ite_congr rfl (fun _ => ?_) fun _ => ?_
  · exact forgetUnspecified_huFinish_withCause _ len st h
  · exact forgetUnspecified_withCause (s := { s with hu := { s.hu with bitcur := _, acc := _ } }) st h

theorem exec_codeWord_withCause {i : Instr} {c : Color} {v : Nat} (hi : i.codeWord? = some (c, v)) (st : Status)
    {s : State} (h : s.hu.hfault = false) :
    mapNext forgetUnspecified (exec i (withCause st s)) = mapNext forgetUnspecified (exec i s) := by
  have htables : (withCause st s).cfg.tables = s.cfg.tables := rfl
  simp only [exec_codeWord _ hi, runWord, htables]
  cases codeRow? s.cfg.tables c v with
  | none => rfl
  | some row => exact congrArg Host.Outcome.next (forgetUnspecified_addRun_withCause v row.len st h)

/-! Put together: -/

/-- With a latched fault nothing of the HU is unspecified; without one only `hcause` is. -/
theorem forgetHU_cases (s : State) :
    forgetHU s = s ∨ (s.hu.hfault = false ∧ forgetHU s = withCause .ok s) := by
  cases hf : s.hu.hfault with
  | true => exact .inl (by rw [forgetHU, HU.forgotten_of_hfault hf]; rfl)
  | false => exact .inr ⟨rfl, by simp [forgetHU, withHuffmanSide, HU.forgotten, withCause, hf]⟩

/-- A command of the HU or a code word that does not read `hcause` without a latched fault reads no unspecified register. -/
theorem exec_forgetUnspecified_huSide {i : Instr} (s : State)
    (hi : (∃ o c, i = .hregion o c) ∨ i = .hline ∨ (∃ sel, i = .hnext sel) ∨ i.codeWord? ≠ none)
    (hcause : ∀ st, s.hu.hfault = false →
      mapNext forgetUnspecified (exec i (withCause st s)) = mapNext forgetUnspecified (exec i s)) :
    mapNext forgetUnspecified (exec i (forgetUnspecified s)) = mapNext forgetUnspecified (exec i s) := by
  rw [forgetUnspecified_eq_forgetPU, exec_forgetPU _ hi]
  rcases forgetHU_cases s with hs | ⟨hf, hs⟩
  · rw [hs]
  · rw [hs]
    exact hcause .ok hf

/-- No instruction reads a register that is unspecified in its state. -/
theorem exec_forgetUnspecified (i : Instr) (s : State) :
    mapNext forgetUnspecified (exec i (forgetUnspecified s)) = mapNext forgetUnspecified (exec i s) := by
  cases instrShape i with
  | resolve kind bits =>
    rw [forgetUnspecified_eq_forgetHU, exec_forgetHU _ (.inl ⟨kind, bits, rfl⟩), exec_resolve_forgetPU]
  | pcreate kind bits order spp width =>
    rw [forgetUnspecified_eq_forgetHU, exec_forgetHU _ (.inr (.inl ⟨kind, bits, order, spp, width, rfl⟩)),
      exec_pcreate_forgetPU]
  | preverse start stop =>
    rw [forgetUnspecified_eq_forgetHU, exec_forgetHU _ (.inr (.inr ⟨start, stop, rfl⟩)), exec_preverse_forgetPU]
  | hregion offset count =>
    exact exec_forgetUnspecified_huSide s (.inl ⟨offset, count, rfl⟩) fun st => exec_hregion_withCause offset count st
  | hline => exact exec_forgetUnspecified_huSide s (.inr (.inl rfl)) fun st => exec_hline_withCause st
  | hnext sel =>
    exact exec_forgetUnspecified_huSide s (.inr (.inr (.inl ⟨sel, rfl⟩))) fun st => exec_hnext_withCause sel st
  | codeWord hword =>
    exact exec_forgetUnspecified_huSide s (.inr (.inr (.inr (by simp [hword])))) fun st =>
      exec_codeWord_withCause hword st

/-- Settles O51: what an instruction does in a state it does in the state with the unspecified registers forgotten, which is
one and the same for the two. -/
theorem unspecifiedRegistersAreNotRead : Obligations.UnspecifiedRegistersAreNotRead := by
  intro i s s' h
  calc mapNext forgetUnspecified (exec i s)
      = mapNext forgetUnspecified (exec i (forgetUnspecified s)) := (exec_forgetUnspecified i s).symm
    _ = mapNext forgetUnspecified (exec i (forgetUnspecified s')) := by rw [h]
    _ = mapNext forgetUnspecified (exec i s') := exec_forgetUnspecified i s'

/-! ### Which command writes which register -/

/-- Commands of the HU and code words write no register of the PU. -/
theorem pu_eq_of_huSide {i : Instr} {s t : State}
    (hi : (∃ o c, i = .hregion o c) ∨ i = .hline ∨ (∃ sel, i = .hnext sel) ∨ i.codeWord? ≠ none)
    (ht : exec i s = .next t) : t.pu = s.pu :=
  (frame_of_commutes_predictorSide (fun pu buf => exec_withPredictorSide hi pu buf s) ht).1

/-- Commands of the TR and the PU write no register of the HU. -/
theorem hu_eq_of_puSide {i : Instr} {s t : State}
    (hi : (∃ k n, i = .resolve k n) ∨ (∃ k n o p w, i = .pcreate k n o p w) ∨ ∃ a b, i = .preverse a b)
    (ht : exec i s = .next t) : t.hu = s.hu :=
  (frame_of_commutes_huffmanSide (fun hu inp => exec_withHuffmanSide hi hu inp s) ht).1

/-- A `RESOLVE` writes no register of the PU. -/
theorem pu_eq_of_resolve {kind : Kind} {bits : BitVec 16} {s t : State} (ht : exec (.resolve kind bits) s = .next t) :
    t.pu = s.pu := by
  rcases exec_resolve_cases kind bits s with ⟨-, heq⟩ | ⟨r, -, heq⟩ <;> cases heq.symm.trans ht <;> rfl

/-- A `PREVERSE` writes `column` and the carry buffer and no other register of the PU (spec 10_state R33). -/
theorem pu_eq_of_preverse {start stop : Word} {s t : State} (ht : exec (.preverse start stop) s = .next t) :
    ∃ column saved, t.pu = { s.pu with column := column, saved := saved } := by
  rcases exec_preverse_cases start stop s with ⟨-, heq⟩ | ⟨-, -, heq⟩ | ⟨-, -, -, cnt, p, -, -, heq⟩ <;>
    cases heq.symm.trans ht <;> exact ⟨_, _, rfl⟩

/-- Only `PCREATE` and `PREVERSE` write a register of the PU. -/
theorem pu_eq_or_preverse {i : Instr} {s t : State} (hi : ∀ k n o p w, i ≠ .pcreate k n o p w)
    (ht : exec i s = .next t) : t.pu = s.pu ∨ ∃ a b, i = .preverse a b := by
  cases instrShape i with
  | resolve kind bits => exact .inl (pu_eq_of_resolve ht)
  | pcreate kind bits order spp width => exact absurd rfl (hi kind bits order spp width)
  | preverse start stop => exact .inr ⟨start, stop, rfl⟩
  | hregion offset count => exact .inl (pu_eq_of_huSide (.inl ⟨offset, count, rfl⟩) ht)
  | hline => exact .inl (pu_eq_of_huSide (.inr (.inl rfl)) ht)
  | hnext sel => exact .inl (pu_eq_of_huSide (.inr (.inr (.inl ⟨sel, rfl⟩))) ht)
  | codeWord hword => exact .inl (pu_eq_of_huSide (.inr (.inr (.inr (by simp [hword])))) ht)

/-- Settles O53: an instruction but `PCREATE` and `PREVERSE` writes no register of the PU, and `PREVERSE` the two it may. -/
theorem onlyPcreateSetsTheGeometry : Obligations.OnlyPcreateSetsTheGeometry := by
  intro i s t ht hi
  rcases pu_eq_or_preverse hi ht with hpu | ⟨a, b, rfl⟩
  · rw [hpu]
    exact ⟨rfl, rfl, rfl, rfl, rfl, rfl, rfl, rfl, rfl, fun _ => ⟨rfl, rfl⟩⟩
  · obtain ⟨column, saved, hpu⟩ := pu_eq_of_preverse ht
    rw [hpu]
    exact ⟨rfl, rfl, rfl, rfl, rfl, rfl, rfl, rfl, rfl, fun hn => absurd rfl (hn a b)⟩

/-- Only the commands of the HU write a register of it, code words aside. -/
theorem hu_eq_or_huCommand {i : Instr} {s t : State} (hi : i.codeWord? = none) (ht : exec i s = .next t) :
    t.hu = s.hu ∨ (∃ o c, i = .hregion o c) ∨ i = .hline ∨ ∃ sel, i = .hnext sel := by
  cases instrShape i with
  | resolve kind bits => exact .inl (hu_eq_of_puSide (.inl ⟨kind, bits, rfl⟩) ht)
  | pcreate kind bits order spp width =>
    exact .inl (hu_eq_of_puSide (.inr (.inl ⟨kind, bits, order, spp, width, rfl⟩)) ht)
  | preverse start stop => exact .inl (hu_eq_of_puSide (.inr (.inr ⟨start, stop, rfl⟩)) ht)
  | hregion offset count => exact .inr (.inl ⟨offset, count, rfl⟩)
  | hline => exact .inr (.inr (.inl rfl))
  | hnext sel => exact .inr (.inr (.inr ⟨sel, rfl⟩))
  | codeWord hword => cases hi.symm.trans hword

/-! What the commands of the HU do to the latch and the colour, with the response they give: all that spec 10_state R35 and R37
speak of. -/

theorem exec_hregion_latch {offset count : Word} {s t : State} (ht : exec (.hregion offset count) s = .next t) :
    (∃ p, t.rsp = some p ∧ p.st = .range ∧ t.hu = s.hu) ∨
    (∃ p, t.rsp = some p ∧ p.st = .ok ∧ t.hu.hfault = false ∧ t.hu.color = .white) := by
  rcases exec_hregion_cases offset count s with ⟨-, heq⟩ | ⟨-, heq⟩ <;> cases heq.symm.trans ht
  · exact .inl ⟨_, rfl, rfl, rfl⟩
  · exact .inr ⟨_, rfl, rfl, rfl, rfl⟩

theorem exec_hline_latch {s t : State} (ht : exec .hline s = .next t) :
    (∃ p, t.rsp = some p ∧ (p.st = .notReady ∨ s.hu.hfault = true ∧ p.st = s.hu.hcause) ∧ t.hu = s.hu) ∨
    (∃ p, t.rsp = some p ∧ p.st = .ok ∧ t.hu.hfault = s.hu.hfault ∧ t.hu.color = .white) := by
  rcases exec_hline_cases s with ⟨-, heq⟩ | ⟨-, hf, heq⟩ | ⟨-, -, heq⟩ <;> cases heq.symm.trans ht
  · exact .inl ⟨_, rfl, .inl rfl, rfl⟩
  · exact .inl ⟨_, rfl, .inr ⟨hf, rfl⟩, rfl⟩
  · exact .inr ⟨_, rfl, rfl, rfl, rfl⟩

theorem exec_hnext_latch {sel : Sel} {s t : State} (ht : exec (.hnext sel) s = .next t) :
    (∃ p, t.rsp = some p ∧ (p.st = .notReady ∨ s.hu.hfault = true ∧ p.st = s.hu.hcause) ∧ t.hu = s.hu) ∨
    (∃ p, t.rsp = some p ∧ p.st = .ok ∧ s.hu.hfault = false ∧ t.hu.hfault = false ∧
      t.hu.color = Color.flip s.hu.color) ∨
    (∃ p, t.rsp = some p ∧ p.st = t.hu.hcause ∧ p.r = t.hu.acc ∧ HnextCause t.hu.hcause ∧ s.hu.hfault = false ∧
      t.hu.hfault = true ∧ t.hu.color = s.hu.color) := by
  rcases exec_hnext_cases sel s with ⟨-, heq⟩ | ⟨-, hf, heq⟩ | ⟨-, -, -, heq⟩ | ⟨-, -, -, -, heq⟩ |
    ⟨-, hf, -, rom, -, ⟨run, used, -, heq⟩ | ⟨st, acc, used, hd, heq⟩⟩ <;> cases heq.symm.trans ht
  · exact .inl ⟨_, rfl, .inl rfl, rfl⟩
  · exact .inl ⟨_, rfl, .inr ⟨hf, rfl⟩, rfl⟩
  · exact .inr (.inl ⟨_, rfl, rfl, hf, hf, rfl⟩)
  · exact .inr (.inr ⟨_, rfl, rfl, rfl, decodeRun_cause hd, hf, rfl, rfl⟩)

/-- A latch that stays as it is is neither set nor cleared. -/
theorem latch_of_hfault_eq {s t : State} (h : t.hu.hfault = s.hu.hfault) {P Q : Prop} :
    (s.hu.hfault = false → t.hu.hfault = true → P) ∧ (s.hu.hfault = true → t.hu.hfault = false → Q) := by
  rw [h]
  exact ⟨fun hf hn => (by simp [hf] at hn), fun hf hn => (by simp [hf] at hn)⟩

/-- Settles O54: only the last of the things an `HNEXT` can do sets the latch, and only an `HREGION` that is taken clears
it. -/
theorem onlyHnextLatchesAndOnlyHregionClears : Obligations.OnlyHnextLatchesAndOnlyHregionClears := by
  intro i s t hi ht
  rcases hu_eq_or_huCommand hi ht with hhu | ⟨offset, count, rfl⟩ | rfl | ⟨sel, rfl⟩
  · exact latch_of_hfault_eq (by rw [hhu])
  · rcases exec_hregion_latch ht with ⟨p, -, -, hhu⟩ | ⟨p, -, -, hf, -⟩
    · exact latch_of_hfault_eq (by rw [hhu])
    · exact ⟨fun _ hn => (by simp [hf] at hn), fun _ _ => ⟨offset, count, rfl⟩⟩
  · rcases exec_hline_latch ht with ⟨p, -, -, hhu⟩ | ⟨p, -, -, hf, -⟩
    · exact latch_of_hfault_eq (by rw [hhu])
    · exact latch_of_hfault_eq hf
  · rcases exec_hnext_latch ht with ⟨p, -, -, hhu⟩ | ⟨p, -, -, hfs, hft, -⟩ | ⟨p, hp, hst, hr, hcause, hfs, -, -⟩
    · exact latch_of_hfault_eq (by rw [hhu])
    · exact latch_of_hfault_eq (hft.trans hfs.symm)
    · exact ⟨fun _ _ => ⟨⟨sel, rfl⟩, hcause, p, hp, hst, hr⟩, fun hn => (by simp [hfs] at hn)⟩

/-- A refused command of the HU answers a fault: a latched cause is never `OK` (spec 10_state R37). -/
theorem status_ne_ok_of_refused {cfg : Params} {hu : HU} {st : Status} (h : HUInv cfg hu)
    (hst : st = .notReady ∨ hu.hfault = true ∧ st = hu.hcause) : st ≠ .ok := by
  obtain ⟨-, -, -, hlatch, -⟩ := h
  rcases hst with rfl | ⟨hf, rfl⟩
  · exact nofun
  · rcases (hlatch hf).2 with hc | hc | hc <;> rw [hc] <;> exact nofun

theorem ne_ok_of_hnextCause {st : Status} (h : HnextCause st) : st ≠ .ok := by
  rcases h with rfl | rfl | rfl <;> exact nofun

theorem color_of_hnext {sel : Sel} {s t : State} {p : Response} (h : HUInv s.cfg s.hu)
    (ht : exec (.hnext sel) s = .next t) (hp : t.rsp = some p) :
    (p.st = .ok → t.hu.color = Color.flip s.hu.color) ∧ (p.st ≠ .ok → t.hu.color = s.hu.color) := by
  rcases exec_hnext_latch ht with ⟨q, hq, hst, hhu⟩ | ⟨q, hq, hok, -, -, hcolor⟩ | ⟨q, hq, hst, -, hcause, -, -, hcolor⟩ <;>
    cases hq.symm.trans hp
  · exact ⟨fun hn => absurd hn (status_ne_ok_of_refused h hst), fun _ => by rw [hhu]⟩
  · exact ⟨fun _ => hcolor, fun hn => absurd hok hn⟩
  · exact ⟨fun hn => absurd (hst.symm.trans hn) (ne_ok_of_hnextCause hcause), fun _ => hcolor⟩

theorem color_of_hline {s t : State} {p : Response} (h : HUInv s.cfg s.hu)
    (ht : exec .hline s = .next t) (hp : t.rsp = some p) :
    (p.st = .ok → t.hu.color = .white) ∧ (p.st ≠ .ok → t.hu.color = s.hu.color) := by
  rcases exec_hline_latch ht with ⟨q, hq, hst, hhu⟩ | ⟨q, hq, hok, -, hcolor⟩ <;> cases hq.symm.trans hp
  · exact ⟨fun hn => absurd hn (status_ne_ok_of_refused h hst), fun _ => by rw [hhu]⟩
  · exact ⟨fun _ => hcolor, fun hn => absurd hok hn⟩

theorem color_of_hregion {offset count : Word} {s t : State} {p : Response}
    (ht : exec (.hregion offset count) s = .next t) (hp : t.rsp = some p) :
    (p.st = .ok → t.hu.color = .white) ∧ (p.st ≠ .ok → t.hu.color = s.hu.color) := by
  rcases exec_hregion_latch ht with ⟨q, hq, hst, hhu⟩ | ⟨q, hq, hok, -, hcolor⟩ <;> cases hq.symm.trans hp
  · exact ⟨fun hn => by simp [hst] at hn, fun _ => by rw [hhu]⟩
  · exact ⟨fun _ => hcolor, fun hn => absurd hok hn⟩

/-- Settles O55: one clause for each command of the HU; the others write no register of it. -/
theorem colorFlipsExactlyOnSuccess : Obligations.ColorFlipsExactlyOnSuccess := by
  intro i s t p hinv hi ht hp
  refine ⟨?_, ?_, fun hnext hline hregion => ?_⟩
  · rintro ⟨sel, rfl⟩
    exact color_of_hnext hinv ht hp
  · rintro (rfl | ⟨o, c, rfl⟩)
    · exact color_of_hline hinv ht hp
    · exact color_of_hregion ht hp
  · rcases hu_eq_or_huCommand hi ht with hhu | ⟨o, c, he⟩ | he | ⟨sel, he⟩
    · rw [hhu]
    · exact absurd he (hregion o c)
    · exact absurd he hline
    · exact absurd he (hnext sel)

/-! ### One step, and reset -/

/-- Settles O10: with nothing done meanwhile the command runs in the state without its word. -/
theorem stepRunsTheDecodedCommand : Obligations.StepRunsTheDecodedCommand := by
  intro s w rest i hw hi hd
  have hrun : fetchCommand w [] { s with inbox := rest } = .run i { s with inbox := rest } :=
    fetchCommand_legal hd rfl
  exact step_of_run ((fetch_event hw hi).trans hrun)

/-- Settles O12. -/
theorem coreIdlesWithoutCommands : Obligations.CoreIdlesWithoutCommands :=
  fun _ hw hi => step_of_stop (fetch_idle hw hi)

/-- A reset during a command, legal or not, has no meaning (spec 70_reset R260). -/
theorem fetchCommand_reset (w : CmdWord) (more : List Meanwhile) (s : State) :
    fetchCommand w (.reset :: more) s = .stop (.refused .resetDuringCommand) := by
  cases hd : decodeCommand w with
  | ok i => simp only [fetchCommand, hd, hostMeanwhile]
  | error e => simp only [fetchCommand, hd, hostMeanwhile]

/-- Settles O17: power-on and the host's reset leave the same registers, and the host's reset no other change. -/
theorem resetLeavesTheStatedValues : Obligations.ResetLeavesTheStatedValues := by
  refine ⟨fun s hs => ?_, fun s rest hw hi => ⟨?_, rfl, rfl⟩, fun s w more rest hw hi => ?_⟩
  · obtain ⟨hpu, hhu⟩ : s.pu = PU.reset ∧ s.hu = HU.reset := by
      rcases hs with ⟨p, rfl⟩ | ⟨u, rfl⟩ <;> exact ⟨rfl, rfl⟩
    rw [hpu, hhu]
    exact ⟨rfl, rfl, rfl, rfl, rfl, rfl, fun _ => rfl, rfl, rfl, rfl⟩
  · exact step_of_stop (fetch_event hw hi)
  · exact step_of_stop ((fetch_event hw hi).trans (fetchCommand_reset w more _))

/-- Settles O18: every part of the invariant holds of the reset values. -/
theorem invariantHoldsAfterReset : Obligations.InvariantHoldsAfterReset :=
  fun p hp => ⟨hp, puInv_reset p, huInv_reset p, rfl, rfl, rfl, rfl⟩

end Sys2Proof.Machine

/-! SUPPORT. Proofs of the statements about the memories (spec 20_memory): the order of bytes and bits, which bytes a `PREVERSE`
reads and writes, which instruction writes a memory at all, and what the host's touches do. -/

namespace Sys2Proof.Machine
open Sys2Proof

/-! ### Numbers and their bytes -/

theorem leNat_byte (bs : List Byte) {i : Nat} (h : i < bs.length) : leNat bs / 256 ^ i % 256 = bs[i].toNat := by
  induction bs generalizing i with
  | nil => simp at h
  | cons b bs ih =>
    have hb := b.isLt
    cases i with
    | zero => simp [leNat]; omega
    | succ i =>
      have htail : (b.toNat + 256 * leNat bs) / 256 = leNat bs := by omega
      rw [leNat, Nat.pow_succ', ← Nat.div_div_eq_div_mul, htail]
      exact ih (by simpa using h)

theorem getElem_leBytes (n v : Nat) {i : Nat} (h : i < (leBytes n v).length) :
    (leBytes n v)[i] = BitVec.ofNat 8 (v / 256 ^ i) := by
  induction n generalizing v i with
  | zero => simp at h
  | succ n ih =>
    cases i with
    | zero => simp [leBytes]
    | succ i =>
      simp only [leBytes, List.getElem_cons_succ]
      rw [ih, Nat.div_div_eq_div_mul, ← Nat.pow_succ']

/-- Taking a number apart and putting it together keeps its `n` low bytes. -/
theorem leNat_leBytes (n v : Nat) : leNat (leBytes n v) = v % 256 ^ n := by
  induction n generalizing v with
  | zero => simp [leBytes, leNat, Nat.mod_one]
  | succ n ih => rw [leBytes, leNat, ih, Nat.pow_succ', Nat.mod_mul, BitVec.toNat_ofNat]

/-- Byte `i` of a sample, the least significant being byte 0, as a quotient. -/
theorem toNat_sampleByte (v : Sample) (i : Nat) : (v.extractLsb' (8 * i) 8).toNat = v.toNat / 256 ^ i % 256 := by
  rw [BitVec.extractLsb'_toNat, Nat.shiftRight_eq_div_pow, pow_mul]
  rfl

/-! ### Loading a sample -/

theorem getElem_readBytes (sp : Space) (m : List Host.Cell) (a n : Nat) {i : Nat} (h : i < (readBytes sp m a n).length) :
    (readBytes sp m a n)[i] = readByte sp m (a + i) := by
  induction n generalizing a i with
  | zero => simp at h
  | succ n ih =>
    cases i with
    | zero => rfl
    | succ i =>
      simp only [readBytes, List.getElem_cons_succ]
      rw [ih, Nat.add_assoc, Nat.add_comm 1 i]

/-- A sample of at most eight bytes is not cut off. -/
theorem loadSample_toNat (o : ByteOrder) {size : Nat} (hsize : size ≤ 8) (m : List Host.Cell) (pos : Nat) :
    (loadSample o size m pos).toNat = leNat (orderBytes o (readBytes .buf m pos size)) := by
  have hlt := leNat_lt (orderBytes o (readBytes .buf m pos size))
  rw [orderBytes_length, readBytes_length] at hlt
  have hpow : 256 ^ size ≤ 256 ^ 8 := Nat.pow_le_pow_right (by omega) hsize
  rw [loadSample, BitVec.toNat_ofNat]
  exact Nat.mod_eq_of_lt (hlt.trans_le hpow)

/-- Byte `i` of a loaded sample is byte `i` of the memory's, put into the order least significant first (spec 20_memory R65). -/
theorem loadSample_byte (o : ByteOrder) {size : Nat} (hsize : size ≤ 8) (m : List Host.Cell) (pos : Nat) {i : Nat}
    (h : i < (orderBytes o (readBytes .buf m pos size)).length) :
    (loadSample o size m pos).extractLsb' (8 * i) 8 = (orderBytes o (readBytes .buf m pos size))[i] := by
  apply BitVec.eq_of_toNat_eq
  rw [toNat_sampleByte, loadSample_toNat o hsize, leNat_byte _ h]

/-- Settles O23: the bytes read are those of the memory, `BE` the other way round. -/
theorem loadSampleAssemblesItsBytes : Obligations.LoadSampleAssemblesItsBytes := by
  intro m pos size hsize
  refine ⟨fun i hi => ⟨?_, ?_⟩, fun order => loadSample_fits order size m pos⟩
  · rw [loadSample_byte .le hsize m pos (by simpa using hi)]
    exact getElem_readBytes .buf m pos size _
  · rw [loadSample_byte .be hsize m pos (by simpa using hi)]
    simp only [orderBytes, List.getElem_reverse, readBytes_length]
    exact getElem_readBytes .buf m pos size _

/-! ### Storing a sample -/

/-- The bytes a store writes, in the order of the memory (spec 20_memory R66). -/
theorem memGet?_storeSample_inside (o : ByteOrder) (size : Nat) (m : List Host.Cell) (pos : Nat) (v : Sample) {i : Nat}
    (h : i < (orderBytes o (leBytes size v.toNat)).length) :
    memGet? (storeSample o size m pos v) (pos + i) = some (orderBytes o (leBytes size v.toNat))[i] :=
  memGet?_writeBytes_inside m pos _ h

theorem getElem_leBytes_sample (size : Nat) (v : Sample) {i : Nat} (h : i < (leBytes size v.toNat).length) :
    (leBytes size v.toNat)[i] = v.extractLsb' (8 * i) 8 := by
  apply BitVec.eq_of_toNat_eq
  rw [getElem_leBytes, toNat_sampleByte, BitVec.toNat_ofNat]

/-- Bytes written are read back. -/
theorem readBytes_writeBytes (sp : Space) (m : List Host.Cell) (a : Nat) (bs : List Byte) :
    readBytes sp (writeBytes m a bs) a bs.length = bs := by
  apply List.ext_getElem (readBytes_length ..)
  intro i _ hi
  rw [getElem_readBytes, readByte, memGet?_writeBytes_inside m a bs hi, Option.getD_some]

/-- A sample that fits its size is read back as it was stored (spec 20_memory R66). -/
theorem loadSample_storeSample (o : ByteOrder) {size : Nat} (m : List Host.Cell) (pos : Nat) {v : Sample}
    (hv : SampleFits size v) : loadSample o size (storeSample o size m pos v) pos = v := by
  have hread : readBytes .buf (storeSample o size m pos v) pos size = orderBytes o (leBytes size v.toNat) := by
    simpa [storeSample] using readBytes_writeBytes .buf m pos (orderBytes o (leBytes size v.toNat))
  have hlt : v.toNat < 256 ^ size := by rwa [SampleFits, pow_mul] at hv
  rw [loadSample, hread, orderBytes_orderBytes, leNat_leBytes, Nat.mod_eq_of_lt hlt, BitVec.ofNat_toNat,
    BitVec.setWidth_eq]

/-- Settles O24: inside, outside and read back, each by its law of the store. -/
theorem storeSampleWritesExactlyItsBytes : Obligations.StoreSampleWritesExactlyItsBytes := by
  intro m pos size v _
  refine ⟨fun i hi => ⟨?_, ?_⟩, fun order x hx => memGet?_storeSample_outside order size m pos v hx,
    fun order hv => loadSample_storeSample order m pos hv⟩
  · rw [memGet?_storeSample_inside .le size m pos v (by simpa using hi)]
    exact congrArg some (getElem_leBytes_sample size v _)
  · rw [memGet?_storeSample_inside .be size m pos v (by simpa using hi)]
    simp only [orderBytes, List.getElem_reverse, leBytes_length]
    exact congrArg some (getElem_leBytes_sample size v _)

/-! ### The bits of the input region -/

theorem getElem?_bitsFrom (m : List Host.Cell) (rstart n : Nat) {count k : Nat} (h : k < count) :
    (bitsFrom m rstart n count)[k]? = some (bitAt m rstart (n + k)) := by
  obtain ⟨c, hc⟩ : ∃ c, count - k = c + 1 := ⟨count - k - 1, by omega⟩
  rw [← List.head?_drop, bitsFrom_drop, hc]
  rfl

/-- Settles O38: the unread bits are those from the cursor on, and after the last of them there is none. -/
theorem bitsAreReadMostSignificantFirst : Obligations.BitsAreReadMostSignificantFirst := by
  intro s n
  refine ⟨fun h => ?_, fun h => ?_⟩
  · exact getElem?_bitsFrom _ _ _ (by omega)
  · rw [List.getElem?_eq_none_iff, unreadBits_length]
    omega

/-! ### A `PREVERSE` of a region inside `BUF` -/

/-- The pass of a `PREVERSE` (spec 41_predictor R162 to R166). -/
def preversePass (start stop : Word) (s : State) : Pass :=
  reversePass s.cfg.fadd s.pu start.toNat (sampleCount s.pu start.toNat stop.toNat) 0 ⟨s.buf, s.pu.saved⟩

/-- The state after a `PREVERSE` that completes (spec 41_predictor R167). -/
def preverseDone (start stop : Word) (s : State) : State :=
  respond .ok 0 (BitVec.ofNat 32 (start.toNat + sampleCount s.pu start.toNat stop.toNat * s.pu.sampleSize.toNat))
    { s with
      buf := (preversePass start stop s).buf
      pu := { s.pu with
        saved := (preversePass start stop s).saved
        column := BitVec.ofNat 32 (rowOffset s.pu (sampleCount s.pu start.toNat stop.toNat)) } }

theorem exec_preverse_inside {start stop : Word} {s : State} (hv : s.pu.pvalid = true)
    (hab : start.toNat ≤ stop.toNat) (hb : stop.toNat ≤ s.cfg.bufSize.toNat) :
    exec (.preverse start stop) s = .next (preverseDone start stop s) := by
  rcases exec_preverse_cases start stop s with ⟨hn, -⟩ | ⟨-, hrange, -⟩ | ⟨-, -, -, cnt, p, rfl, rfl, heq⟩
  · simp [hv] at hn
  · omega
  · exact heq

/-! ### What a pass writes -/

/-- A sample of a first pixel is not written (spec 41_predictor R164). -/
theorem reverseSample_buf_firstPixel (impl : FloatAdd) {pu : PU} {k : Nat} (a : Nat) (p : Pass)
    (h : rowOffset pu k < pu.pixelStride.toNat) : (reverseSample impl pu a k p).buf = p.buf := by
  simp only [reverseSample, if_pos h]

/-- A pass leaves every byte that is in no sample, or in one of a first pixel. -/
theorem memGet?_reversePass (impl : FloatAdd) {pu : PU} {a n x : Nat} (p : Pass)
    (h : ∀ k < n, rowOffset pu k < pu.pixelStride.toNat ∨ x < a + k * pu.sampleSize.toNat ∨
      a + k * pu.sampleSize.toNat + pu.sampleSize.toNat ≤ x) :
    memGet? (reversePass impl pu a n 0 p).buf x = memGet? p.buf x := by
  induction n with
  | zero => rfl
  | succ n ih =>
    rw [reversePass_succ, Nat.zero_add, ← ih fun k hk => h k (by omega)]
    rcases h n (by omega) with hfirst | hout
    · rw [reverseSample_buf_firstPixel impl a _ hfirst]
    · exact memGet?_reverseSample impl pu a n _ hout

/-- A sample ends before any later one begins. -/
theorem sample_end_le {k n : Nat} (size : Nat) (h : k < n) : k * size + size ≤ n * size := by
  rw [← Nat.succ_mul]
  exact Nat.mul_le_mul_right size h

/-- Settles O32: a byte outside the samples is in none, and one in a sample of a first pixel is in no other. -/
theorem preverseLeavesEveryOtherByte : Obligations.PreverseLeavesEveryOtherByte := by
  intro s a b hv _ hab hb
  refine ⟨_, exec_preverse_inside hv hab hb, fun x hx => ?_, fun k hk hfirst j hj => ?_⟩
  · refine memGet?_reversePass s.cfg.fadd _ fun k hk => .inr ?_
    have := sample_end_le s.pu.sampleSize.toNat hk
    rw [sampleCount] at this
    omega
  · refine memGet?_reversePass s.cfg.fadd _ fun k' _ => ?_
    rcases Nat.lt_trichotomy k' k with hlt | rfl | hgt
    · have := sample_end_le s.pu.sampleSize.toNat hlt
      omega
    · exact .inl hfirst
    · have := sample_end_le s.pu.sampleSize.toNat hgt
      omega

/-! ### What a pass reads -/

/-- Two passes have the same carry buffer and the same bytes from `lo` to `hi` exclusive. -/
structure Pass.AgreeOn (lo hi : Nat) (p q : Pass) : Prop where
  saved : p.saved = q.saved
  bytes : ∀ x, lo ≤ x → x < hi → memGet? p.buf x = memGet? q.buf x

/-- A sample inside the bytes on which two passes agree is the same for both. -/
theorem Pass.AgreeOn.loadSample_eq {lo hi : Nat} {p q : Pass} (h : p.AgreeOn lo hi q) (o : ByteOrder) {size pos : Nat}
    (hlo : lo ≤ pos) (hhi : pos + size ≤ hi) : loadSample o size p.buf pos = loadSample o size q.buf pos :=
  loadSample_congr o size fun i _ => h.bytes (pos + i) (by omega) (by omega)

theorem memGet?_storeSample_congr (o : ByteOrder) (size : Nat) {m m' : List Host.Cell} (pos : Nat) (v : Sample) {x : Nat}
    (h : memGet? m x = memGet? m' x) :
    memGet? (storeSample o size m pos v) x = memGet? (storeSample o size m' pos v) x := by
  by_cases hin : pos ≤ x ∧ x < pos + size
  · obtain ⟨i, rfl⟩ := Nat.exists_eq_add_of_le hin.1
    have hi : i < (orderBytes o (leBytes size v.toNat)).length := by simp; omega
    rw [memGet?_storeSample_inside o size m pos v hi, memGet?_storeSample_inside o size m' pos v hi]
  · rw [memGet?_storeSample_outside o size m pos v (by omega), memGet?_storeSample_outside o size m' pos v (by omega), h]

/-- A sample reads itself, the carry buffer, and the sample one pixel before it when that is not before the region. -/
theorem agreeOn_reverseSample (impl : FloatAdd) {pu : PU} {a k hi : Nat} {p q : Pass}
    (hk : a + k * pu.sampleSize.toNat + pu.sampleSize.toNat ≤ hi) (h : p.AgreeOn a hi q) :
    (reverseSample impl pu a k p).AgreeOn a hi (reverseSample impl pu a k q) := by
  have hself := h.loadSample_eq pu.byteOrder (pos := a + k * pu.sampleSize.toNat) (by omega) hk
  have hprev : pu.pixelStride.toNat ≤ k * pu.sampleSize.toNat →
      loadSample pu.byteOrder pu.sampleSize.toNat p.buf (a + k * pu.sampleSize.toNat - pu.pixelStride.toNat) =
      loadSample pu.byteOrder pu.sampleSize.toNat q.buf (a + k * pu.sampleSize.toNat - pu.pixelStride.toNat) :=
    fun hle => h.loadSample_eq pu.byteOrder (by omega) (by omega)
  simp only [reverseSample, hself, h.saved]
  by_cases hfirst : rowOffset pu k < pu.pixelStride.toNat
  · simp only [if_pos hfirst]
    exact ⟨rfl, h.bytes⟩
  · simp only [if_neg hfirst, ite_congr rfl hprev fun _ => rfl]
    exact ⟨rfl, fun x hlo hhi => memGet?_storeSample_congr _ _ _ _ (h.bytes x hlo hhi)⟩

theorem agreeOn_reversePass (impl : FloatAdd) {pu : PU} {a n hi : Nat} {p q : Pass}
    (hn : a + n * pu.sampleSize.toNat ≤ hi) (h : p.AgreeOn a hi q) :
    (reversePass impl pu a n 0 p).AgreeOn a hi (reversePass impl pu a n 0 q) := by
  induction n with
  | zero => exact h
  | succ n ih =>
    rw [Nat.succ_mul, ← Nat.add_assoc] at hn
    rw [reversePass_succ, reversePass_succ, Nat.zero_add]
    exact agreeOn_reverseSample impl hn (ih (by omega))

/-- Settles O33: the two passes agree on the bytes of the samples before, and so after. -/
theorem preverseReadsNoOtherByte : Obligations.PreverseReadsNoOtherByte := by
  intro s buf' a b t hv _ hab hb hagree ht
  cases (exec_preverse_inside hv hab hb).symm.trans ht
  have hpass : (preversePass a b { s with buf := buf' }).AgreeOn a.toNat _ (preversePass a b s) :=
    agreeOn_reversePass s.cfg.fadd (Nat.le_refl _) ⟨rfl, hagree⟩
  refine ⟨_, exec_preverse_inside hv hab hb, ?_, rfl, hpass.bytes⟩
  simp only [preverseDone, respond_pu, hpass.saved]

/-! ### Which instruction writes a memory -/

theorem addRun_inbox (run len : Nat) (s : State) : (addRun run len s).inbox = s.inbox := by
  rcases addRun_cases run len s with ⟨-, heq⟩ | ⟨-, -, heq⟩ | ⟨-, -, heq⟩ <;> rw [heq] <;> rfl

/-- A code word writes no memory and none of the model's inputs. -/
theorem codeWord_memory {i : Instr} {c : Color} {v : Nat} (hi : i.codeWord? = some (c, v)) {s t : State}
    (ht : exec i s = .next t) : t.inp = s.inp ∧ t.cfg = s.cfg ∧ t.inbox = s.inbox ∧ t.buf = s.buf := by
  rcases runWord_cases c v s with ⟨-, heq⟩ | ⟨row, -, heq⟩ <;>
    cases heq.symm.trans ((exec_codeWord s hi).symm.trans ht)
  obtain ⟨-, hbuf, hinp, hcfg⟩ := addRun_frame v row.len s
  exact ⟨hinp, hcfg, addRun_inbox v row.len s, hbuf⟩

/-- Settles O52: no answer of a command but that of a completed `PREVERSE` has another memory. -/
theorem onlyPreverseWritesMemory : Obligations.OnlyPreverseWritesMemory := by
  intro i s t ht
  cases instrShape i with
  | resolve kind bits =>
    rcases exec_resolve_cases kind bits s with ⟨-, heq⟩ | ⟨r, -, heq⟩ <;> cases heq.symm.trans ht <;>
      exact ⟨rfl, rfl, rfl, fun _ => rfl⟩
  | pcreate kind bits order spp width =>
    rcases exec_pcreate_cases kind bits order spp width s with ⟨-, heq⟩ | ⟨r, -, -, heq⟩ | ⟨r, -, -, heq⟩ <;>
      cases heq.symm.trans ht <;> exact ⟨rfl, rfl, rfl, fun _ => rfl⟩
  | preverse start stop =>
    rcases exec_preverse_cases start stop s with ⟨-, heq⟩ | ⟨-, -, heq⟩ | ⟨-, -, -, cnt, p, -, -, heq⟩ <;>
      cases heq.symm.trans ht <;> exact ⟨rfl, rfl, rfl, fun hn => absurd rfl (hn start stop)⟩
  | hregion offset count =>
    rcases exec_hregion_cases offset count s with ⟨-, heq⟩ | ⟨-, heq⟩ <;> cases heq.symm.trans ht <;>
      exact ⟨rfl, rfl, rfl, fun _ => rfl⟩
  | hline =>
    rcases exec_hline_cases s with ⟨-, heq⟩ | ⟨-, -, heq⟩ | ⟨-, -, heq⟩ <;> cases heq.symm.trans ht <;>
      exact ⟨rfl, rfl, rfl, fun _ => rfl⟩
  | hnext sel =>
    rcases exec_hnext_cases sel s with ⟨-, heq⟩ | ⟨-, -, heq⟩ | ⟨-, -, -, heq⟩ | ⟨-, -, -, -, heq⟩ |
      ⟨-, -, -, rom, -, ⟨run, used, -, heq⟩ | ⟨st, acc, used, -, heq⟩⟩ <;> cases heq.symm.trans ht <;>
      exact ⟨rfl, rfl, rfl, fun _ => rfl⟩
  | codeWord hword =>
    obtain ⟨hinp, hcfg, hinbox, hbuf⟩ := codeWord_memory hword ht
    exact ⟨hinp, hcfg, hinbox, fun _ => hbuf⟩

/-! ### A command word that decodes is well-formed -/

theorem ne_three_of_kindOf {x : BitVec 2} {k : Kind} (h : kindOf x = some k) : x ≠ 3#2 := by
  rintro rfl
  cases h

theorem ne_three_of_selOf {x : BitVec 2} {k : Sel} (h : selOf x = some k) : x ≠ 3#2 := by
  rintro rfl
  cases h

/-- A decoder's check that did not fail. -/
theorem not_and_ok_of_check {p : Prop} [Decidable p] {e : DecodeError} {x : Except DecodeError Instr} {i : Instr}
    (h : (if p then .error e else x) = .ok i) : ¬ p ∧ x = .ok i := by
  by_cases hp : p
  · simp [hp] at h
  · exact ⟨hp, by simpa [hp] using h⟩

/-- What decodes has a known opcode, zeros in its reserved bits, and legal fields (spec 30_encoding R94). -/
theorem wellFormed_of_decodeFields {r : RawCommand} {i : Instr} (h : decodeFields r = .ok i) : r.wellFormed = true := by
  simp only [RawCommand.wellFormed, RawCommand.opcodeKnown, RawCommand.reservedZero, RawCommand.kindLegal,
    RawCommand.selLegal]
  simp only [decodeFields] at h
  split at h
  next hresolve =>
    obtain ⟨hzero, hkind⟩ := not_and_ok_of_check h
    split at hkind
    next k hk => simpa [hresolve, ne_three_of_kindOf hk, and_assoc] using hzero
    next => cases hkind
  split at h
  next hpcreate =>
    obtain ⟨hzero, hkind⟩ := not_and_ok_of_check h
    split at hkind
    next k hk => simpa [hpcreate, ne_three_of_kindOf hk] using hzero
    next => cases hkind
  split at h
  next hpreverse => simpa [hpreverse] using (not_and_ok_of_check h).1
  split at h
  next hhregion => simpa [hhregion] using (not_and_ok_of_check h).1
  split at h
  next hhline => simpa [hhline, and_assoc] using (not_and_ok_of_check h).1
  split at h
  next hhnext =>
    obtain ⟨hzero, hsel⟩ := not_and_ok_of_check h
    split at hsel
    next k hk => simpa [hhnext, ne_three_of_selOf hk, and_assoc] using hzero
    next => cases hsel
  cases h

/-- An ill-formed command word does not decode (spec 30_encoding R92). -/
theorem decodeCommand_error_of_illFormed {w : CmdWord} (h : (fieldsOf w).wellFormed = false) :
    ∃ e, decodeCommand w = .error e := by
  cases hd : decodeCommand w with
  | error e => exact ⟨e, rfl⟩
  | ok i => exact absurd (wellFormed_of_decodeFields hd) (by simp [h])

/-! ### Touches by the host -/

/-- Between commands a touch is applied as it is. -/
theorem step_touch {s : State} {t : HostTouch} {rest : List HostEvent} (hw : s.hu.walk = none)
    (hi : s.inbox = .touch t :: rest) : step s = applyTouch t { s with inbox := rest } :=
  step_of_stop (fetch_event hw hi)

theorem step_touch_fault {s : State} {t : HostTouch} {rest : List HostEvent} {f : Fault} (hw : s.hu.walk = none)
    (hf : touchFault? s.cfg t = some f) (hi : s.inbox = .touch t :: rest) : step s = .fault f := by
  rw [step_touch hw hi]
  simp only [applyTouch, hf]

/-- Settles O16: the check of each kind of touch fails when its last byte does not exist. -/
theorem addressesOutsideAMemoryFault : Obligations.AddressesOutsideAMemoryFault := by
  intro s rest x count bytes hw
  refine ⟨fun hout => ?_, fun hout => ?_, fun hout => ?_, fun hout => ?_⟩ <;>
    exact step_touch_fault hw (if_neg (Nat.not_le.2 hout))

/-- Bytes written are found at their addresses, the others as they were. -/
theorem memGet?_writeBytes (m : List Host.Cell) (x : Nat) (bytes : List Byte) (y : Nat) :
    memGet? (writeBytes m x bytes) y = if x ≤ y ∧ y < x + bytes.length then bytes[y - x]? else memGet? m y := by
  split
  next hin =>
    obtain ⟨i, rfl⟩ := Nat.exists_eq_add_of_le hin.1
    have hi : i < bytes.length := by omega
    rw [memGet?_writeBytes_inside m x bytes hi, Nat.add_sub_cancel_left, List.getElem?_eq_getElem hi]
  next hout => exact memGet?_writeBytes_outside m x bytes (by omega)

/-- What the host does in turn, when the first part does not stop the machine. -/
theorem hostMeanwhile_append {i : Option Instr} {ms : List Meanwhile} {s s' : State} (more : List Meanwhile)
    (h : hostMeanwhile i ms s = .next s') : hostMeanwhile i (ms ++ more) s = hostMeanwhile i more s' := by
  induction ms generalizing s with
  | nil => cases h; rfl
  | cons m ms ih =>
    cases m with
    | reset => cases h
    | command w => cases h
    | touch x =>
      obtain ⟨u, hu, hrest⟩ := hostMeanwhile_touch_next h
      simp only [hostMeanwhile, List.cons_append, hu] at h ⊢
      split at h
      · cases h
      next hok => rw [if_neg hok]; exact ih hrest

/-- A forbidden touch is refused, after whatever the host may touch before it (spec 20_memory R79). -/
theorem hostMeanwhile_forbidden {i : Instr} {before : List HostTouch} {t : HostTouch} {s : State} (more : List Meanwhile)
    (hbefore : ∀ u ∈ before, TouchExists s.cfg u ∧ ¬ TouchMeets s.hu i u) (ht : TouchMeets s.hu i t) :
    hostMeanwhile (some i) (before.map .touch ++ .touch t :: more) s = .refused .hostTouchedRegion := by
  have hm : hostMeanwhile (some i) (before.map .touch) s = .next (before.foldl touchState s) :=
    hostMeanwhile_dutiful (some i) before s (fun u hu => (hbefore u hu).1)
      fun u hu j hj => Option.some.inj hj ▸ (hbefore u hu).2
  obtain ⟨-, hhu, -⟩ := hostMeanwhile_registers (some i) _ hm
  have hforbidden : touchForbidden (before.foldl touchState s).hu i t = true := by
    rw [hhu]
    exact (touchForbidden_iff s.hu i t).2 ht
  rw [hostMeanwhile_append _ hm]
  simp [hostMeanwhile, hforbidden]

theorem fetchCommand_refused {w : CmdWord} {i : Instr} {ms : List Meanwhile} {s : State} {r : Refusal}
    (hd : decodeCommand w = .ok i) (hm : hostMeanwhile (some i) ms s = .refused r) :
    fetchCommand w ms s = .stop (.refused r) := by
  simp only [fetchCommand, hd, hm]

/-- Settles O14: the forbidden touch first, then the permitted ones during a legal command, an illegal one and between commands,
and last what a permitted touch does. -/
theorem hostTouchOfARunningRegionIsRefused : Obligations.HostTouchOfARunningRegionIsRefused := by
  refine ⟨?_, ?_, ?_, ?_, ?_⟩
  · intro s w i before t more rest hw hd hbefore ht hi
    have hm := hostMeanwhile_forbidden (s := { s with inbox := rest }) more hbefore ht
    exact step_of_stop ((fetch_event hw hi).trans (fetchCommand_refused hd hm))
  · intro s w i ts rest hw hd hts hi
    have hm := hostMeanwhile_dutiful (some i) ts { s with inbox := rest } (fun t ht => (hts t ht).1)
      fun t ht j hj => Option.some.inj hj ▸ (hts t ht).2
    exact step_of_run ((fetch_event hw hi).trans (fetchCommand_legal hd hm))
  · intro s w ts rest hw hill hts hi
    obtain ⟨e, hd⟩ := decodeCommand_error_of_illFormed hill
    have hm := hostMeanwhile_dutiful none ts { s with inbox := rest } hts fun _ _ _ h => nomatch h
    exact step_of_stop ((fetch_event hw hi).trans (fetchCommand_illegal hd hm))
  · intro s t rest hw hex hi
    rw [step_touch hw hi]
    exact applyTouch_next.2 ⟨(touchFault?_eq_none_iff s.cfg t).2 hex, rfl⟩
  · intro s x count bytes
    exact ⟨rfl, rfl, rfl, rfl, fun y => ⟨memGet?_writeBytes s.buf x bytes y, memGet?_writeBytes s.inp x bytes y⟩⟩

end Sys2Proof.Machine

/-! SUPPORT. Proofs of the statements about encodings (spec 30_encoding): the legal command words are exactly the encodings of the
commands, a code word is decoded back in every build, and what the responses carry. -/

namespace Sys2Proof.Machine
open Sys2Proof

/-! ### The byte of small fields

`f` holds `kind` or `sel` in its bits 1 to 0, and `PCREATE` the byte order in bit 2; the bits above are reserved (spec 30_encoding
R91, R97, R99, R100). -/

@[simp] theorem reserved_of_zero_append (x : BitVec 2) : BitVec.extractLsb' (n := 8) 2 6 (0#6 ++ x) = 0#6 :=
  BitVec.extractLsb'_append_eq_left

@[simp] theorem field_of_zero_append (x : BitVec 2) : BitVec.extractLsb' (n := 8) 0 2 (0#6 ++ x) = x :=
  BitVec.extractLsb'_append_eq_right

@[simp] theorem reserved_of_zero_append_append (o : BitVec 1) (x : BitVec 2) :
    BitVec.extractLsb' (n := 8) 3 5 (0#5 ++ o ++ x) = 0#5 :=
  (BitVec.extractLsb'_append_eq_of_le (by decide)).trans BitVec.extractLsb'_append_eq_left

@[simp] theorem order_of_zero_append_append (o : BitVec 1) (x : BitVec 2) :
    BitVec.extractLsb' (n := 8) 2 1 (0#5 ++ o ++ x) = o :=
  (BitVec.extractLsb'_append_eq_of_le (by decide)).trans BitVec.extractLsb'_append_eq_right

@[simp] theorem field_of_zero_append_append (o : BitVec 1) (x : BitVec 2) :
    BitVec.extractLsb' (n := 8) 0 2 (0#5 ++ o ++ x) = x :=
  BitVec.extractLsb'_append_eq_right

/-- With the reserved bits zero the byte is its field. -/
theorem zero_append_field {f : BitVec 8} (h : f.extractLsb' 2 6 = 0) : (0 : BitVec 6) ++ f.extractLsb' 0 2 = f := by
  rw [← h]
  exact (BitVec.extractLsb'_append_extractLsb'_eq_extractLsb' rfl).trans BitVec.extractLsb'_eq_self

/-- With the reserved bits zero the byte of a `PCREATE` is its two fields. -/
theorem zero_append_fields {f : BitVec 8} (h : f.extractLsb' 3 5 = 0) :
    (0 : BitVec 5) ++ f.extractLsb' 2 1 ++ f.extractLsb' 0 2 = f := by
  rw [← h]
  have hhigh : f.extractLsb' 3 5 ++ f.extractLsb' 2 1 = f.extractLsb' 2 6 :=
    BitVec.extractLsb'_append_extractLsb'_eq_extractLsb' rfl
  rw [hhigh]
  exact (BitVec.extractLsb'_append_extractLsb'_eq_extractLsb' rfl).trans BitVec.extractLsb'_eq_self

theorem eq_of_ne_three : ∀ {x : BitVec 2}, x ≠ 3 → x = 0 ∨ x = 1 ∨ x = 2 := by decide

/-- A `kind` that is not 3 is the code of one (spec 30_encoding R97). -/
theorem exists_kind_code {x : BitVec 2} (h : x ≠ 3) : ∃ k : Kind, k.code = x := by
  rcases eq_of_ne_three h with rfl | rfl | rfl
  · exact ⟨.uint, rfl⟩
  · exact ⟨.sint, rfl⟩
  · exact ⟨.float, rfl⟩

/-- A `sel` that is not 3 is the code of one (spec 30_encoding R99). -/
theorem exists_sel_code {x : BitVec 2} (h : x ≠ 3) : ∃ k : Sel, k.code = x := by
  rcases eq_of_ne_three h with rfl | rfl | rfl
  · exact ⟨.w, rfl⟩
  · exact ⟨.b, rfl⟩
  · exact ⟨.cur, rfl⟩

theorem code_orderOf : ∀ b : BitVec 1, (orderOf b).code = b := by decide

/-! ### The legal command words are the encodings of the commands -/

/-- The fields of a command decode to it (spec 30_encoding R91). -/
theorem decodeFields_commandFields {i : Instr} (h : i.codeWord? = none) : decodeFields (commandFields i) = .ok i := by
  cases instrShape i with
  | resolve kind bits => simp [decodeFields]
  | pcreate kind bits order spp width => simp [decodeFields]
  | preverse start stop => rfl
  | hregion offset count => rfl
  | hline => rfl
  | hnext sel => simp [decodeFields]
  | codeWord hword => simp [hword] at h

/-- Legal fields are those of a command, opcode by opcode (spec 30_encoding R91 to R94). -/
theorem exists_commandFields_of_wellFormed {r : RawCommand} (h : r.wellFormed = true) :
    ∃ i : Instr, i.codeWord? = none ∧ commandFields i = r := by
  obtain ⟨op, f, n, a, b⟩ := r
  simp only [RawCommand.wellFormed, Bool.and_eq_true] at h
  obtain ⟨⟨⟨hop, hzero⟩, hkind⟩, hsel⟩ := h
  replace hop : op = 0x01 ∨ op = 0x02 ∨ op = 0x03 ∨ op = 0x10 ∨ op = 0x11 ∨ op = 0x12 := by
    simpa [RawCommand.opcodeKnown, or_assoc] using hop
  rcases hop with rfl | rfl | rfl | rfl | rfl | rfl
  · obtain ⟨hf, rfl, rfl⟩ : f.extractLsb' 2 6 = 0 ∧ a = 0 ∧ b = 0 := by
      simpa [RawCommand.reservedZero, and_assoc] using hzero
    obtain ⟨k, hk⟩ := exists_kind_code (x := f.extractLsb' 0 2) (by simpa [RawCommand.kindLegal] using hkind)
    exact ⟨.resolve k n, rfl, by rw [commandFields_resolve, hk, zero_append_field hf]⟩
  · have hf : f.extractLsb' 3 5 = 0 := by simpa [RawCommand.reservedZero] using hzero
    obtain ⟨k, hk⟩ := exists_kind_code (x := f.extractLsb' 0 2) (by simpa [RawCommand.kindLegal] using hkind)
    exact ⟨.pcreate k n (orderOf (f.extractLsb' 2 1)) a b, rfl,
      by rw [commandFields_pcreate, hk, code_orderOf, zero_append_fields hf]⟩
  · obtain ⟨rfl, rfl⟩ : f = 0 ∧ n = 0 := by simpa [RawCommand.reservedZero] using hzero
    exact ⟨.preverse a b, rfl, rfl⟩
  · obtain ⟨rfl, rfl⟩ : f = 0 ∧ n = 0 := by simpa [RawCommand.reservedZero] using hzero
    exact ⟨.hregion a b, rfl, rfl⟩
  · obtain ⟨rfl, rfl, rfl, rfl⟩ : f = 0 ∧ n = 0 ∧ a = 0 ∧ b = 0 := by
      simpa [RawCommand.reservedZero, and_assoc] using hzero
    exact ⟨.hline, rfl, rfl⟩
  · obtain ⟨hf, rfl, rfl, rfl⟩ : f.extractLsb' 2 6 = 0 ∧ n = 0 ∧ a = 0 ∧ b = 0 := by
      simpa [RawCommand.reservedZero, and_assoc] using hzero
    obtain ⟨k, hk⟩ := exists_sel_code (x := f.extractLsb' 0 2) (by simpa [RawCommand.selLegal] using hsel)
    exact ⟨.hnext k, rfl, by rw [commandFields_hnext, hk, zero_append_field hf]⟩

/-- The words that decode to a command are the word of its fields alone: what decodes is well-formed, so made of the fields of a
command, and those decode to no other. -/
theorem decodeCommand_eq_ok_iff {w : CmdWord} {i : Instr} :
    decodeCommand w = .ok i ↔ i.codeWord? = none ∧ w = wordOf (commandFields i) := by
  constructor
  · intro h
    obtain ⟨j, hj, hfields⟩ := exists_commandFields_of_wellFormed (wellFormed_of_decodeFields h)
    have hdecode : decodeCommand w = .ok j := by
      rw [decodeCommand, ← hfields]
      exact decodeFields_commandFields hj
    cases hdecode.symm.trans h
    exact ⟨hj, by rw [hfields, wordOf_fieldsOf]⟩
  · rintro ⟨hi, rfl⟩
    rw [decodeCommand, fieldsOf_wordOf]
    exact decodeFields_commandFields hi

theorem encode_command (tables : CodeTables) {i : Instr} (h : i.codeWord? = none) :
    encode tables i = .command (wordOf (commandFields i)) := by
  simp only [encode, h]

theorem encode_codeWord (tables : CodeTables) {i : Instr} {c : Color} {v : Nat} (h : i.codeWord? = some (c, v)) :
    encode tables i = .code c (patternOf tables c v) := by
  simp only [encode, h]

/-! ### A code word is decoded back -/

/-- A walk through a trie reaches the leaf whose path begins the bits, whatever follows. -/
theorem trieWalk_of_leafAt {c0 c1 : Trie} {v : Nat} {q : List Bool} (used : Nat) (rest : List Bool)
    (h : (Trie.node c0 c1).leafAt q = some v) :
    (Trie.node c0 c1).walkFrom used (q ++ rest) = .leaf v (used + q.length) := by
  induction q generalizing c0 c1 used with
  | nil => cases h
  | cons b bs ih =>
    rw [Trie.leafAt] at h
    rw [List.cons_append, Trie.walkFrom]
    cases hc : (if b then c1 else c0) with
    | absent => simp [hc] at h
    | leaf w =>
      cases bs with
      | nil => simpa [hc, Trie.leafAt] using h
      | cons b' bs' => simp [hc, Trie.leafAt] at h
    | node d0 d1 =>
      rw [hc] at h
      have hwalk := ih (used + 1) h
      simpa [Nat.add_assoc, Nat.add_comm 1] using hwalk

/-- A walk through a ROM reaches the leaf of the row whose pattern begins the bits (spec 42_huffman R196, R203). -/
theorem walk_of_row {tables : CodeTables} {c : Color} {t : List RomEntry} {r : CodeRow} (ht : rom tables c = some t)
    (hr : r ∈ codeTable tables c) (rest : List Bool) : walk t (r.pattern ++ rest) = .leaf r.run r.len := by
  rw [rom_eq_buildRom] at ht
  obtain ⟨trie, htrie, himage⟩ := Option.bind_eq_some_iff.1 ht
  obtain ⟨c0, c1, rfl⟩ := insertAll_node_eq_node htrie
  have hleaf := (leafAt_insertAll htrie r.pattern r.run).2 (.inr ⟨r, hr, rfl, rfl⟩)
  rw [walk_image _ himage, trieWalk_of_leafAt 0 rest hleaf]
  simp [CodeRow.pattern]

/-- A run length has one code word of a colour: `wordInstr` finds it (spec 30_encoding R103). -/
theorem wordInstr_of_codeWord? {i : Instr} {c : Color} {v : Nat} (h : i.codeWord? = some (c, v)) :
    wordInstr c v = some i := by
  cases i <;> cases h <;> rfl

/-- A stream that begins with the pattern of a code word begins with that code word (spec 30_encoding R102). -/
theorem decodeWord_of_row {tables : CodeTables} {i : Instr} {c : Color} {r : CodeRow}
    (hrom : rom tables c ≠ none) (hr : r ∈ codeTable tables c) (hi : i.codeWord? = some (c, r.run)) (rest : List Bool) :
    decodeWord tables c (r.pattern ++ rest) = .ok (i, r.len) := by
  obtain ⟨t, ht⟩ := Option.ne_none_iff_exists'.1 hrom
  simp only [decodeWord, ht, walk_of_row ht hr, wordInstr_of_codeWord? hi]

/-- In a well-formed build the pattern of a code word is that of the row of its run length (spec 31_code_tables R120). -/
theorem exists_row_of_codeWord? {tables : CodeTables} {i : Instr} {c : Color} {v : Nat}
    (hw : tablesWellFormed tables = true) (hi : i.codeWord? = some (c, v)) :
    ∃ r ∈ codeTable tables c, r.run = v ∧ patternOf tables c v = r.pattern := by
  obtain ⟨r, hr⟩ := codeRow?_of_isRun hw c (isRun_of_codeWord? hi)
  refine ⟨r, List.mem_of_find?_eq_some hr, ?_, by simp only [patternOf, hr]⟩
  simpa using List.find?_some hr

/-- A code word is decoded back from its pattern in every well-formed build. -/
theorem decode_patternOf {tables : CodeTables} {i : Instr} {c : Color} {v : Nat}
    (hw : tablesWellFormed tables = true) (hi : i.codeWord? = some (c, v)) :
    decode tables (.code c (patternOf tables c v)) = .ok i := by
  obtain ⟨r, hr, rfl, hpattern⟩ := exists_row_of_codeWord? hw hi
  have hword : decodeWord tables c r.pattern = .ok (i, r.len) := by
    simpa using decodeWord_of_row (rom_ne_none hw c) hr hi []
  simp only [decode, hpattern, hword]
  simp [CodeRow.pattern]

/-! ### The statements about the decoder -/

/-- Settles O3: a command by the fields of its word, a code word by the walk to its leaf. -/
theorem everyInstructionDecodesBack : Obligations.EveryInstructionDecodesBack := by
  intro tables i hw
  cases hi : i.codeWord? with
  | none => rw [encode_command tables hi, decode, decodeCommand_eq_ok_iff.2 ⟨hi, rfl⟩]
  | some cv =>
    obtain ⟨c, v⟩ := cv
    rw [encode_codeWord tables hi, decode_patternOf hw hi]

/-- Settles O4: the only word that decodes to a command is its encoding. -/
theorem commandHasOneEncoding : Obligations.CommandHasOneEncoding := by
  intro tables w i h
  obtain ⟨hi, rfl⟩ := decodeCommand_eq_ok_iff.1 h
  exact encode_command tables hi

/-- Settles O5: the legal fields are exactly those of the commands. -/
theorem exactlyTheLegalCommandsDecode : Obligations.ExactlyTheLegalCommandsDecode := by
  intro w
  constructor
  · rintro ⟨i, h⟩
    exact wellFormed_of_decodeFields h
  · intro h
    obtain ⟨i, hi, hfields⟩ := exists_commandFields_of_wellFormed h
    exact ⟨i, decodeCommand_eq_ok_iff.2 ⟨hi, by rw [hfields, wordOf_fieldsOf]⟩⟩

/-- Settles O1: each word by evaluating the decoder. -/
theorem commandWordsOfTheVectorsDecode : Obligations.CommandWordsOfTheVectorsDecode :=
  ⟨rfl, rfl, rfl, rfl, rfl, rfl, rfl, rfl⟩

/-! ### Responses -/

/-- Settles O13: an ill-formed word does not decode, and with nothing done meanwhile its answer is all that changes. -/
theorem illegalCommandHasNoEffect : Obligations.IllegalCommandHasNoEffect := by
  intro s w rest hw hi hill
  obtain ⟨e, hd⟩ := decodeCommand_error_of_illFormed hill
  have hm : hostMeanwhile none [] { s with inbox := rest } = .next { s with inbox := rest } := rfl
  exact step_of_stop ((fetch_event hw hi).trans (fetchCommand_illegal hd hm))

/-- A response with a fault carries the code alone, or also `acc` in `r` where that is allowed (spec 30_encoding R95). -/
def FaultCarriesCode (accAllowed : Prop) (t : State) : Prop :=
  ∃ p, t.rsp = some p ∧ (p.st ≠ .ok → p.aux = 0 ∧ (p.r = 0 ∨ (accAllowed ∧ p.r = t.hu.acc)))

theorem faultCarriesCode_ok {P : Prop} (aux : BitVec 8) (r : Word) (s : State) :
    FaultCarriesCode P (respond .ok aux r s) :=
  ⟨_, rfl, fun h => absurd rfl h⟩

theorem faultCarriesCode_raise {P : Prop} (st : Status) (s : State) : FaultCarriesCode P (respond st 0 0 s) :=
  ⟨_, rfl, fun _ => ⟨rfl, .inl rfl⟩⟩

theorem faultCarriesCode_acc {P : Prop} (hP : P) (st : Status) (s : State) :
    FaultCarriesCode P (respond st 0 s.hu.acc s) :=
  ⟨_, rfl, fun _ => ⟨rfl, .inr ⟨hP, rfl⟩⟩⟩

theorem faultCarriesCode_huFail {P : Prop} (hP : P) (st : Status) (acc : Nat) (s : State) :
    FaultCarriesCode P (huFail st acc s) :=
  ⟨_, rfl, fun _ => ⟨rfl, .inr ⟨hP, rfl⟩⟩⟩

/-- Settles O56: every answer of a command succeeds, carries the code alone, or is an `HLINE` or `HNEXT` with `acc`. -/
theorem faultResponsesCarryOnlyTheCode : Obligations.FaultResponsesCarryOnlyTheCode := by
  intro i s t hi ht
  change FaultCarriesCode (i = .hline ∨ ∃ sel, i = .hnext sel) t
  cases instrShape i with
  | resolve kind bits =>
    rcases exec_resolve_cases kind bits s with ⟨-, h⟩ | ⟨ty, -, h⟩ <;> cases h.symm.trans ht
    · exact faultCarriesCode_raise _ _
    · exact faultCarriesCode_ok _ _ _
  | pcreate kind bits order spp width =>
    rcases exec_pcreate_cases kind bits order spp width s with ⟨-, h⟩ | ⟨ty, -, -, h⟩ | ⟨ty, -, -, h⟩ <;>
      cases h.symm.trans ht
    · exact faultCarriesCode_raise _ _
    · exact faultCarriesCode_raise _ _
    · exact faultCarriesCode_ok _ _ _
  | preverse start stop =>
    rcases exec_preverse_cases start stop s with ⟨-, h⟩ | ⟨-, -, h⟩ | ⟨-, -, -, cnt, p, -, -, h⟩ <;>
      cases h.symm.trans ht
    · exact faultCarriesCode_raise _ _
    · exact faultCarriesCode_raise _ _
    · exact faultCarriesCode_ok _ _ _
  | hregion offset count =>
    rcases exec_hregion_cases offset count s with ⟨-, h⟩ | ⟨-, h⟩ <;> cases h.symm.trans ht
    · exact faultCarriesCode_raise _ _
    · exact faultCarriesCode_ok _ _ _
  | hline =>
    rcases exec_hline_cases s with ⟨-, h⟩ | ⟨-, -, h⟩ | ⟨-, -, h⟩ <;> cases h.symm.trans ht
    · exact faultCarriesCode_raise _ _
    · exact faultCarriesCode_acc (.inl rfl) _ s
    · exact faultCarriesCode_ok _ _ _
  | hnext sel =>
    rcases exec_hnext_cases sel s with ⟨-, h⟩ | ⟨-, -, h⟩ | ⟨-, -, -, h⟩ | ⟨-, -, -, -, h⟩ |
      ⟨-, -, -, rom, -, ⟨run, used, -, h⟩ | ⟨st, acc, used, -, h⟩⟩ <;> cases h.symm.trans ht
    · exact faultCarriesCode_raise _ _
    · exact faultCarriesCode_acc (.inr ⟨sel, rfl⟩) _ s
    · exact faultCarriesCode_ok _ _ _
    · exact faultCarriesCode_huFail (.inr ⟨sel, rfl⟩) _ _ _
  | codeWord hword => simp [hword] at hi

/-! ### The response word -/

/-- A concatenation as a number. -/
theorem toNat_append_eq_add {m n : Nat} (x : BitVec m) (y : BitVec n) :
    (x ++ y).toNat = x.toNat * 2 ^ n + y.toNat := by
  rw [BitVec.toNat_append, ← Nat.shiftLeft_add_eq_or_of_lt y.isLt, Nat.shiftLeft_eq]

/-- The response word as a number (spec 30_encoding R95). -/
theorem toNat_word (p : Response) : p.word.toNat = p.st.code.toNat * 2 ^ 40 + p.aux.toNat * 2 ^ 32 + p.r.toNat := by
  have happend : p.word.toNat = (p.st.code ++ p.aux).toNat * 2 ^ 32 + p.r.toNat := toNat_append_eq_add _ _
  rw [happend, toNat_append_eq_add]
  omega

theorem word_st (p : Response) : p.word.extractLsb' 40 8 = p.st.code :=
  (BitVec.extractLsb'_append_eq_of_le (by decide)).trans BitVec.extractLsb'_append_eq_left

theorem word_aux (p : Response) : p.word.extractLsb' 32 8 = p.aux :=
  (BitVec.extractLsb'_append_eq_of_le (by decide)).trans BitVec.extractLsb'_append_eq_right

theorem word_r (p : Response) : p.word.extractLsb' 0 32 = p.r := BitVec.extractLsb'_append_eq_right

/-- No code but 0 to 8 (spec 30_encoding R96). -/
theorem code_le_eight (st : Status) : st.code.toNat ≤ 8 := by
  cases st <;> decide

/-- Settles O60: the word as a number gives the layout, its three parts are the fields, and the codes are listed. -/
theorem responseWordLayout : Obligations.ResponseWordLayout := by
  refine ⟨fun aux r row hrow => ?_, fun p => ⟨?_, word_aux p, word_r p⟩⟩
  · have hcode : row.1.code.toNat = row.2 := by
      revert row
      decide
    rw [toNat_word, hcode]
  · rw [word_st]
    exact code_le_eight p.st

end Sys2Proof.Machine

/-! SUPPORT. Proofs of the statements about the code tables (spec 31_code_tables R122, R123, R125), read off the trie of a table:
its leaves are the entries, its internal nodes begin entries, and its absent nodes are the bit strings without an entry. -/

namespace Sys2Proof.Machine
open Sys2Proof

/-! ### The subtree at the end of a path -/

/-- What stands at the end of a path from the root; `none` when the path leaves the trie before its end. -/
def Trie.subtree? : Trie → List Bool → Option Trie
  | t, [] => some t
  | .node c0 c1, b :: bs => Trie.subtree? (if b then c1 else c0) bs
  | _, _ :: _ => none

@[simp] theorem subtree?_nil (t : Trie) : t.subtree? [] = some t := by
  cases t <;> rfl

@[simp] theorem subtree?_node_cons (c0 c1 : Trie) (b : Bool) (bs : List Bool) :
    (Trie.node c0 c1).subtree? (b :: bs) = (if b then c1 else c0).subtree? bs := rfl

@[simp] theorem subtree?_absent_cons (b : Bool) (bs : List Bool) : Trie.absent.subtree? (b :: bs) = none := rfl

@[simp] theorem subtree?_leaf_cons (v : Nat) (b : Bool) (bs : List Bool) :
    (Trie.leaf v).subtree? (b :: bs) = none := rfl

theorem subtree?_append (t : Trie) (p q : List Bool) :
    t.subtree? (p ++ q) = (t.subtree? p).bind fun u => u.subtree? q := by
  induction p generalizing t with
  | nil => simp
  | cons b bs ih => cases t <;> simp [ih]

theorem leafAt_eq_some_iff {t : Trie} {q : List Bool} {v : Nat} :
    t.leafAt q = some v ↔ t.subtree? q = some (.leaf v) := by
  induction q generalizing t with
  | nil => cases t <;> simp [Trie.leafAt]
  | cons b bs ih =>
    cases t with
    | node c0 c1 => exact ih
    | _ => simp [Trie.leafAt]

/-- A path that ends in a leaf or at an absent node begins no other path of the trie. -/
theorem eq_of_prefix_of_no_child {t e u : Trie} {p q : List Bool} (hp : t.subtree? p = some e)
    (he : ∀ c0 c1, e ≠ .node c0 c1) (hq : t.subtree? q = some u) (hpq : p <+: q) : p = q := by
  obtain ⟨rest, rfl⟩ := hpq
  rw [subtree?_append, hp, Option.bind_some] at hq
  cases rest with
  | nil => simp
  | cons b bs =>
    cases e with
    | node c0 c1 => exact absurd rfl (he c0 c1)
    | _ => cases hq

/-- Following bits through a trie meets a leaf, or ends inside the trie, or meets an absent node. -/
theorem leaf_or_node_or_absent (t : Trie) (bits : List Bool) :
    (∃ q v, q <+: bits ∧ t.subtree? q = some (.leaf v)) ∨
    (∃ c0 c1, t.subtree? bits = some (.node c0 c1)) ∨
    (∃ q, q <+: bits ∧ t.subtree? q = some .absent) := by
  induction bits generalizing t with
  | nil => cases t <;> simp
  | cons b bs ih =>
    cases t with
    | absent => exact .inr (.inr ⟨[], List.nil_prefix, rfl⟩)
    | leaf v => exact .inl ⟨[], v, List.nil_prefix, rfl⟩
    | node c0 c1 =>
      rcases ih (if b then c1 else c0) with ⟨q, v, hpre, hq⟩ | hnode | ⟨q, hpre, hq⟩
      · exact .inl ⟨b :: q, v, by simpa using hpre, hq⟩
      · exact .inr (.inl hnode)
      · exact .inr (.inr ⟨b :: q, by simpa using hpre, hq⟩)

/-! ### The absent nodes of a trie -/

/-- The paths to the absent nodes. -/
def Trie.holes : Trie → List (List Bool)
  | .absent => [[]]
  | .leaf _ => []
  | .node c0 c1 => c0.holes.map (false :: ·) ++ c1.holes.map (true :: ·)

theorem mem_holes {t : Trie} {q : List Bool} : q ∈ t.holes ↔ t.subtree? q = some .absent := by
  induction t generalizing q with
  | absent => cases q <;> simp [Trie.holes]
  | leaf v => cases q <;> simp [Trie.holes]
  | node c0 c1 ih0 ih1 =>
    cases q with
    | nil => simp [Trie.holes]
    | cons b bs => cases b <;> simp [Trie.holes, ih0, ih1]

/-- A walk finds no path at the end of a path to an absent node, whatever follows (spec 42_huffman R204). -/
theorem trieWalk_of_absent {c0 c1 : Trie} {q : List Bool} (used : Nat) (rest : List Bool)
    (h : (Trie.node c0 c1).subtree? q = some .absent) :
    (Trie.node c0 c1).walkFrom used (q ++ rest) = .noPath (used + q.length) := by
  induction q generalizing c0 c1 used with
  | nil => cases h
  | cons b bs ih =>
    rw [subtree?_node_cons] at h
    rw [List.cons_append, Trie.walkFrom]
    cases hc : (if b then c1 else c0) with
    | absent =>
      cases bs with
      | nil => simp
      | cons b' bs' => simp [hc] at h
    | leaf w => cases bs <;> simp [hc] at h
    | node d0 d1 =>
      rw [hc] at h
      simpa [Nat.add_assoc, Nat.add_comm 1] using ih (used + 1) h

/-! ### The trie of a table -/

/-- Entering a row below an absent node begins with an internal node there (spec 42_huffman R193). -/
theorem insert_absent_cons (b : Bool) (bs : List Bool) (v : Nat) :
    Trie.absent.insert (b :: bs) v = (Trie.node .absent .absent).insert (b :: bs) v := by
  cases b <;> rfl

/-- Entering a row at an internal node enters it in the child of its first bit and leaves the other child alone. -/
theorem insert_node_cons {c0 c1 t : Trie} {b : Bool} {bs : List Bool} {v : Nat}
    (h : (Trie.node c0 c1).insert (b :: bs) v = some t) :
    ∃ d0 d1, t = .node d0 d1 ∧ (if b then c1 else c0).insert bs v = some (if b then d1 else d0) ∧
      ∀ b', b' ≠ b → (if b' then d1 else d0) = (if b' then c1 else c0) := by
  cases b <;>
    · obtain ⟨u, hu, rfl⟩ := Option.map_eq_some_iff.1 h
      exact ⟨_, _, rfl, hu, by simp⟩

/-- Entering a row makes internal nodes only on the way to its leaf (spec 42_huffman R193). -/
theorem node_of_insert {t t' c0 c1 : Trie} {p q : List Bool} {v : Nat} (h : t.insert p v = some t')
    (hq : t'.subtree? q = some (.node c0 c1)) : (∃ d0 d1, t.subtree? q = some (.node d0 d1)) ∨ q <+: p := by
  induction p generalizing t t' q with
  | nil =>
    cases t with
    | absent => cases h; cases q <;> cases hq
    | _ => cases h
  | cons b bs ih =>
    cases q with
    | nil => exact .inr List.nil_prefix
    | cons b' bs' =>
      have below : ∀ {e0 e1}, (Trie.node e0 e1).insert (b :: bs) v = some t' →
          (∃ d0 d1, (if b' then e1 else e0).subtree? bs' = some (.node d0 d1)) ∨ b' :: bs' <+: b :: bs := by
        intro e0 e1 he
        obtain ⟨d0, d1, rfl, hchild, hother⟩ := insert_node_cons he
        rw [subtree?_node_cons] at hq
        by_cases hb : b' = b
        · subst hb
          exact (ih hchild hq).imp_right fun hpre => by simpa using hpre
        · exact .inl ⟨c0, c1, by rw [← hother b' hb, hq]⟩
      cases t with
      | leaf u => cases b <;> cases h
      | absent =>
        refine (below (insert_absent_cons b bs v ▸ h)).imp_left ?_
        rintro ⟨d0, d1, hd⟩
        cases bs' <;> simp at hd
      | node e0 e1 => exact below h

theorem node_of_insertAll {rows : List CodeRow} {t t' c0 c1 : Trie} {q : List Bool} (h : t.insertAll rows = some t')
    (hq : t'.subtree? q = some (.node c0 c1)) :
    (∃ d0 d1, t.subtree? q = some (.node d0 d1)) ∨ ∃ r ∈ rows, q <+: r.pattern := by
  induction rows generalizing t with
  | nil => cases h; exact .inl ⟨c0, c1, hq⟩
  | cons r rs ih =>
    obtain ⟨u, hu, hrs⟩ := Option.bind_eq_some_iff.1 h
    rcases ih hrs with ⟨d0, d1, hd⟩ | ⟨r', hr', hpre⟩
    · exact (node_of_insert hu hd).imp_right fun hpre => ⟨r, List.mem_cons_self, hpre⟩
    · exact .inr ⟨r', List.mem_cons_of_mem r hr', hpre⟩

/-- The root of a table's trie is an internal node, whatever the table (spec 42_huffman R193). -/
theorem buildTrie_eq_node {rows : List CodeRow} {t : Trie} (h : buildTrie rows = some t) :
    ∃ c0 c1, t = .node c0 c1 := insertAll_node_eq_node h

/-- The leaves of a table's trie are the table's entries (spec 42_huffman R192). -/
theorem leaf_buildTrie_iff {rows : List CodeRow} {t : Trie} (h : buildTrie rows = some t) {q : List Bool} {v : Nat} :
    t.subtree? q = some (.leaf v) ↔ ∃ r ∈ rows, r.pattern = q ∧ r.run = v := by
  rw [← leafAt_eq_some_iff, leafAt_insertAll h]
  refine or_iff_right ?_
  cases q <;> simp [Trie.leafAt]

theorem subtree?_pattern {rows : List CodeRow} {t : Trie} (h : buildTrie rows = some t) {r : CodeRow} (hr : r ∈ rows) :
    t.subtree? r.pattern = some (.leaf r.run) :=
  (leaf_buildTrie_iff h).2 ⟨r, hr, rfl, rfl⟩

/-- The internal nodes of the trie of a table with entries begin an entry properly. -/
theorem exists_row_of_node {rows : List CodeRow} {t c0 c1 : Trie} {q : List Bool} (h : buildTrie rows = some t)
    (hne : rows ≠ []) (hq : t.subtree? q = some (.node c0 c1)) :
    ∃ r ∈ rows, q <+: r.pattern ∧ q ≠ r.pattern := by
  have hprefix : ∃ r ∈ rows, q <+: r.pattern := by
    rcases node_of_insertAll h hq with ⟨d0, d1, hroot⟩ | hrow
    · cases q with
      | nil =>
        obtain ⟨r, hr⟩ := List.exists_mem_of_ne_nil rows hne
        exact ⟨r, hr, List.nil_prefix⟩
      | cons b bs => cases b <;> cases bs <;> cases hroot
    · exact hrow
  obtain ⟨r, hr, hpre⟩ := hprefix
  refine ⟨r, hr, hpre, ?_⟩
  rintro rfl
  cases hq.symm.trans (subtree?_pattern h hr)

/-! ### In a table hardware can be built from, no entry begins another -/

theorem exists_trie {tables : CodeTables} (hw : tablesWellFormed tables = true) (c : Color) :
    ∃ t, buildTrie (codeTable tables c) = some t := by
  obtain ⟨image, himage⟩ := Option.ne_none_iff_exists'.1 (rom_ne_none hw c)
  rw [rom_eq_buildRom] at himage
  obtain ⟨t, ht, -⟩ := Option.bind_eq_some_iff.1 himage
  exact ⟨t, ht⟩

/-- No entry begins another (spec 31_code_tables R122): both are paths to leaves, and a run length has one entry. -/
theorem row_eq_of_pattern_prefix {tables : CodeTables} {c : Color} {r q : CodeRow} (hw : tablesWellFormed tables = true)
    (hr : r ∈ codeTable tables c) (hq : q ∈ codeTable tables c) (h : r.pattern <+: q.pattern) : r = q := by
  obtain ⟨t, ht⟩ := exists_trie hw c
  have hleafR := subtree?_pattern ht hr
  have hleafQ := subtree?_pattern ht hq
  have hpattern : r.pattern = q.pattern := eq_of_prefix_of_no_child hleafR nofun hleafQ h
  rw [hpattern, hleafQ] at hleafR
  have hrun : q.run = r.run := by simpa using hleafR
  have hrow := codeRow?_of_mem hw hr
  rw [← hrun, codeRow?_of_mem hw hq] at hrow
  exact (Option.some.inj hrow).symm

/-- An absent node is on no entry's way, and no entry is on the way to it. -/
theorem not_prefix_of_absent {rows : List CodeRow} {t : Trie} {r : CodeRow} {q : List Bool}
    (h : buildTrie rows = some t) (hr : r ∈ rows) (hq : t.subtree? q = some .absent) :
    ¬ r.pattern <+: q ∧ ¬ q <+: r.pattern := by
  have hleaf := subtree?_pattern h hr
  have hne : r.pattern ≠ q := by
    rintro rfl
    cases hleaf.symm.trans hq
  exact ⟨fun hpre => hne (eq_of_prefix_of_no_child hleaf nofun hq hpre),
    fun hpre => hne (eq_of_prefix_of_no_child hq nofun hleaf hpre).symm⟩

/-- A bit string begins with an entry, or begins an entry properly, or begins with the path to an absent node. -/
theorem row_or_proper_prefix_or_absent {rows : List CodeRow} {t : Trie} (h : buildTrie rows = some t)
    (hne : rows ≠ []) (bits : List Bool) :
    (∃ r ∈ rows, r.pattern <+: bits) ∨ (∃ r ∈ rows, bits <+: r.pattern ∧ bits ≠ r.pattern) ∨
    ∃ q, q <+: bits ∧ t.subtree? q = some .absent := by
  rcases leaf_or_node_or_absent t bits with ⟨q, v, hpre, hleaf⟩ | ⟨c0, c1, hnode⟩ | habsent
  · obtain ⟨r, hr, rfl, -⟩ := (leaf_buildTrie_iff h).1 hleaf
    exact .inl ⟨r, hr, hpre⟩
  · exact .inr (.inl (exists_row_of_node h hne hnode))
  · exact .inr (.inr habsent)

/-- A stream that begins with the path to an absent node begins with no code word (spec 42_huffman R204). -/
theorem decodeWord_of_absent {tables : CodeTables} {c : Color} {t : Trie} {q : List Bool}
    (hw : tablesWellFormed tables = true) (ht : buildTrie (codeTable tables c) = some t)
    (hq : t.subtree? q = some .absent) (rest : List Bool) :
    decodeWord tables c (q ++ rest) = .error .noPath := by
  obtain ⟨image, hrom⟩ := Option.ne_none_iff_exists'.1 (rom_ne_none hw c)
  have himage : t.image = some image := by
    rw [rom_eq_buildRom, buildRom, ht] at hrom
    exact hrom
  obtain ⟨c0, c1, rfl⟩ := buildTrie_eq_node ht
  simp only [decodeWord, hrom, walk_image _ himage, trieWalk_of_absent 0 rest hq]

/-! ### The default tables -/

/-- The only computation over the default tables: each trie has one absent node, after eight zeros (spec 31_code_tables R123). -/
theorem holes_standard (c : Color) :
    (buildTrie (codeTable .standard c)).map Trie.holes = some [List.replicate 8 false] := by
  cases c <;> decide +kernel

theorem absent_standard_iff {c : Color} {t : Trie} (ht : buildTrie (codeTable .standard c) = some t) {q : List Bool} :
    t.subtree? q = some .absent ↔ q = List.replicate 8 false := by
  have hholes : t.holes = [List.replicate 8 false] := by
    simpa only [ht, Option.map_some, Option.some.injEq] using holes_standard c
  rw [← mem_holes, hholes, List.mem_singleton]

/-- Settles O9: entries and `00000000` are the paths to the leaves and to the one absent node of the trie, none of which begins
another, and every other path ends on the way to an entry. -/
theorem codeTablesArePrefixFree : Obligations.CodeTablesArePrefixFree := by
  intro c
  obtain ⟨t, ht⟩ := exists_trie standard_wellFormed c
  have hzeros := (absent_standard_iff ht).2 rfl
  have hne : codeTable .standard c ≠ [] := by cases c <;> exact List.cons_ne_nil _ _
  refine ⟨fun r hr q hq => row_eq_of_pattern_prefix standard_wellFormed hr hq, by rw [ht]; rfl,
    fun r hr => not_prefix_of_absent ht hr hzeros, fun bits => ?_⟩
  refine (row_or_proper_prefix_or_absent ht hne bits).imp_right (Or.imp_right ?_)
  rintro ⟨q, hpre, hq⟩
  rwa [(absent_standard_iff ht).1 hq] at hpre

/-- Settles O2: the two printed words are rows of the table, and eight zeros lead to the absent node of each trie. -/
theorem printedCodeWordsDecode : Obligations.PrintedCodeWordsDecode := by
  have hrom := rom_ne_none standard_wellFormed .white
  refine ⟨?_, ?_, fun c => ?_⟩
  · exact decodeWord_of_row (r := ⟨0, 8, 0b00110101⟩) hrom (by decide) rfl []
  · exact decodeWord_of_row (r := ⟨64, 5, 0b11011⟩) hrom (by decide) rfl []
  · obtain ⟨t, ht⟩ := exists_trie standard_wellFormed c
    exact decodeWord_of_absent standard_wellFormed ht ((absent_standard_iff ht).2 rfl) []

end Sys2Proof.Machine

/-! SUPPORT. Proofs of the statements about the resolver (spec 40_resolver): the mapping of R141 is the list of its ten rows, the
three ends of a `PCREATE`, and that no command reads `sgn`. -/

namespace Sys2Proof.Machine
open Sys2Proof

/-! ### The mapping of types -/

/-- A pair is mapped to what its row lists, and a pair that is mapped has a row (spec 40_resolver R141). -/
theorem resolveType_eq_some_iff {kind : Kind} {bits : BitVec 16} {t : Resolved} :
    resolveType kind bits = some t ↔
      (kind, bits.toNat, t.variant, t.size.toNat, t.isFloat, t.isSigned) ∈ typeRows := by
  constructor
  · intro h
    cases kind <;>
      · simp only [resolveType] at h
        repeat' split at h
        all_goals cases h
        all_goals subst bits; decide
  · obtain ⟨v, size, isFloat, isSigned⟩ := t
    intro h
    simp only [typeRows, List.mem_cons, List.not_mem_nil, or_false, Prod.mk.injEq] at h
    rcases h with h | h | h | h | h | h | h | h | h | h <;>
      · obtain ⟨rfl, hb, rfl, hs, rfl, rfl⟩ := h
        obtain ⟨-, rfl⟩ := BitVec.toNat_eq_nat.1 hb
        obtain ⟨-, rfl⟩ := BitVec.toNat_eq_nat.1 hs
        rfl

/-- The sizes of the rows fit their register (spec 10_state R25). -/
theorem size_lt_of_mem_typeRows {row : Kind × Nat × Variant × Nat × Bool × Bool} (h : row ∈ typeRows) :
    row.2.2.2.1 < 2 ^ 4 := by
  revert row
  decide

/-- A listed pair resolves to its row (spec 40_resolver R141). -/
theorem exists_resolved_of_mem_typeRows {kind : Kind} {bits : BitVec 16} {v : Variant} {size : Nat}
    {isFloat isSigned : Bool} (h : (kind, bits.toNat, v, size, isFloat, isSigned) ∈ typeRows) :
    ∃ t : Resolved, resolveType kind bits = some t ∧ t.variant = v ∧ t.size.toNat = size ∧ t.isFloat = isFloat ∧
      t.isSigned = isSigned := by
  have hsize : (BitVec.ofNat 4 size).toNat = size := Nat.mod_eq_of_lt (size_lt_of_mem_typeRows h)
  exact ⟨⟨v, BitVec.ofNat 4 size, isFloat, isSigned⟩, resolveType_eq_some_iff.2 (by rwa [hsize]), rfl, hsize, rfl, rfl⟩

/-- A pair that is not listed is unsupported (spec 40_resolver R143). -/
theorem resolveType_eq_none_of_unlisted {kind : Kind} {bits : BitVec 16}
    (h : ∀ row ∈ typeRows, (row.1, row.2.1) ≠ (kind, bits.toNat)) : resolveType kind bits = none :=
  Option.eq_none_iff_forall_ne_some.2 fun _ ht => h _ (resolveType_eq_some_iff.1 ht) rfl

/-- The answer's bits as a sum (spec 30_encoding R98). -/
theorem resolverAux_eq (size : BitVec 4) (isFloat isSigned : Bool) :
    resolverAux size isFloat isSigned = BitVec.ofNat 8 (size.toNat + 16 * isFloat.toNat + 32 * isSigned.toNat) := by
  revert size isFloat isSigned
  decide

/-! ### `RESOLVE` -/

theorem exec_resolve_unsupported {kind : Kind} {bits : BitVec 16} (ht : resolveType kind bits = none) (s : State) :
    exec (.resolve kind bits) s = .next (respond .unsupported 0 0 s) := by
  rcases exec_resolve_cases kind bits s with ⟨-, h⟩ | ⟨t, ht', -⟩
  · exact h
  · cases ht.symm.trans ht'

theorem exec_resolve_listed {kind : Kind} {bits : BitVec 16} {t : Resolved} (ht : resolveType kind bits = some t)
    (s : State) :
    exec (.resolve kind bits) s = .next (respond .ok (resolverAux t.size t.isFloat t.isSigned) 0 s) := by
  rcases exec_resolve_cases kind bits s with ⟨hnone, -⟩ | ⟨t', ht', h⟩
  · cases hnone.symm.trans ht
  · cases ht'.symm.trans ht
    exact h

/-- Settles O19: the listed pairs resolve to their rows, the others to nothing. -/
theorem resolveAnswersPerTheTable : Obligations.ResolveAnswersPerTheTable := by
  refine fun s kind bits => ⟨fun v size isFloat isSigned hrow => ?_, fun hunlisted => ?_⟩
  · obtain ⟨t, ht, rfl, rfl, rfl, rfl⟩ := exists_resolved_of_mem_typeRows hrow
    rw [exec_resolve_listed ht, resolverAux_eq]
    rfl
  · exact exec_resolve_unsupported (resolveType_eq_none_of_unlisted hunlisted) s

/-! ### `PCREATE` -/

/-- The check of `PCREATE` is the five conditions of spec 40_resolver R146. -/
theorem geomOK_iff_geometry (maxBands size spp width : Nat) :
    geomOK maxBands size spp width = true ↔ Geometry maxBands size spp width := by
  rw [geomOK_iff, Geometry, Nat.mul_assoc]
  omega

theorem savedGet_replicate_zero (n band : Nat) : savedGet (List.replicate n 0) band = 0 := by
  simp only [savedGet, List.getD_eq_getElem?_getD, List.getElem?_getD_replicate_default_eq]

theorem exec_pcreate_unsupported {kind : Kind} {bits : BitVec 16} (ht : resolveType kind bits = none) (order : ByteOrder)
    (spp width : Word) (s : State) :
    exec (.pcreate kind bits order spp width) s = .next (respond .unsupported 0 0 { s with pu := PU.reset }) := by
  rcases exec_pcreate_cases kind bits order spp width s with ⟨-, h⟩ | ⟨t, ht', -⟩ | ⟨t, ht', -⟩
  · exact h
  · cases ht.symm.trans ht'
  · cases ht.symm.trans ht'

theorem exec_pcreate_badGeometry {kind : Kind} {bits : BitVec 16} {t : Resolved} (ht : resolveType kind bits = some t)
    (order : ByteOrder) {spp width : Word} {s : State}
    (hg : ¬ Geometry s.cfg.maxBands.toNat t.size.toNat spp.toNat width.toNat) :
    exec (.pcreate kind bits order spp width) s = .next (respond .geometry 0 0 { s with pu := PU.reset }) := by
  rcases exec_pcreate_cases kind bits order spp width s with ⟨hnone, -⟩ | ⟨t', -, -, h⟩ | ⟨t', ht', hok, -⟩
  · cases hnone.symm.trans ht
  · exact h
  · cases ht'.symm.trans ht
    exact absurd ((geomOK_iff_geometry _ _ _ _).1 hok) hg

theorem exec_pcreate_newInstance {kind : Kind} {bits : BitVec 16} {t : Resolved} (ht : resolveType kind bits = some t)
    (order : ByteOrder) {spp width : Word} {s : State}
    (hg : Geometry s.cfg.maxBands.toNat t.size.toNat spp.toNat width.toNat) :
    exec (.pcreate kind bits order spp width) s =
      .next (respond .ok (resolverAux t.size t.isFloat t.isSigned) (newInstance t order spp width).scanlineStride
        { s with pu := newInstance t order spp width }) := by
  rcases exec_pcreate_cases kind bits order spp width s with ⟨hnone, -⟩ | ⟨t', ht', hbad, -⟩ | ⟨t', ht', -, h⟩
  · cases hnone.symm.trans ht
  · cases ht'.symm.trans ht
    cases hbad.symm.trans ((geomOK_iff_geometry _ _ _ _).2 hg)
  · cases ht'.symm.trans ht
    exact h

/-- Settles O20: the PU holds `newInstance`, and the geometry check keeps its two products from being cut off. -/
theorem pcreateBuildsTheInstance : Obligations.PcreateBuildsTheInstance := by
  intro s kind bits order spp width v size isFloat isSigned hrow hg
  obtain ⟨t, ht, rfl, rfl, rfl, rfl⟩ := exists_resolved_of_mem_typeRows hrow
  have hinv : PUInstance s.cfg (newInstance t order spp width) :=
    (puInv_newInstance order ht ((geomOK_iff_geometry _ _ _ _).2 hg)).1 rfl
  obtain ⟨-, -, -, -, hpixel, hscan, -, -, hbands, -⟩ := hinv
  refine ⟨newInstance t order spp width, ?_, rfl, rfl, rfl, rfl, rfl, rfl, rfl, hpixel, ?_, rfl, hbands,
    savedGet_replicate_zero _⟩
  · rw [exec_pcreate_newInstance ht order hg, resolverAux_eq]
    rfl
  · rw [hscan, hpixel, Nat.mul_assoc]
    rfl

/-- Settles O21: the type is checked before the geometry, both checks leave the PU at reset, and an ill-formed word is not
run. -/
theorem pcreateFailureLeavesNoInstance : Obligations.PcreateFailureLeavesNoInstance := by
  refine fun s kind bits order spp width => ⟨fun hunlisted => ?_, fun v size isFloat isSigned hrow hg => ?_, ?_⟩
  · exact exec_pcreate_unsupported (resolveType_eq_none_of_unlisted hunlisted) order spp width s
  · obtain ⟨t, ht, -, rfl, -, -⟩ := exists_resolved_of_mem_typeRows hrow
    exact exec_pcreate_badGeometry ht order hg
  · exact fun w rest hw hi _ hill => illegalCommandHasNoEffect s w rest hw hi hill

/-! ### No command reads `sgn` -/

/-- The state with `sgn` replaced. -/
def withSgn (b : Bool) (s : State) : State := { s with pu := { s.pu with sgn := b } }

/-- A command that passes `sgn` through does the same, `sgn` aside, whatever `sgn` is. -/
theorem forgetSgn_exec_of_commutes {i : Instr} {s : State} {b : Bool}
    (h : exec i (withSgn b s) = mapNext (withSgn b) (exec i s)) :
    mapNext forgetSgn (exec i (withSgn b s)) = mapNext forgetSgn (exec i s) := by
  rw [h]
  cases exec i s <;> rfl

theorem exec_resolve_withSgn (kind : Kind) (bits : BitVec 16) (b : Bool) (s : State) :
    exec (.resolve kind bits) (withSgn b s) = mapNext (withSgn b) (exec (.resolve kind bits) s) := by
  simp only [exec, execResolve]
  cases resolveType kind bits <;> rfl

/-- `PCREATE` writes `sgn` and reads no register of the PU. -/
theorem exec_pcreate_withSgn (kind : Kind) (bits : BitVec 16) (order : ByteOrder) (spp width : Word) (b : Bool)
    (s : State) : exec (.pcreate kind bits order spp width) (withSgn b s) = exec (.pcreate kind bits order spp width) s :=
  rfl

/-- The additions of a pass are those of the variant, which signed and unsigned types share (spec 41_predictor R175). -/
theorem reversePass_sgn (impl : FloatAdd) (pu : PU) (b : Bool) (a n k : Nat) (p : Pass) :
    reversePass impl { pu with sgn := b } a n k p = reversePass impl pu a n k p := by
  induction n generalizing k p with
  | zero => rfl
  | succ n ih => exact ih (k + 1) (reverseSample impl pu a k p)

theorem exec_preverse_withSgn (start stop : Word) (b : Bool) (s : State) :
    exec (.preverse start stop) (withSgn b s) = mapNext (withSgn b) (exec (.preverse start stop) s) := by
  simp only [exec, execPreverse, apply_ite (mapNext _), withSgn, reversePass_sgn]
  rfl

/-- Commands of the HU and code words see no register of the PU (spec 00_scope R3). -/
theorem exec_huSide_withSgn {i : Instr}
    (hi : (∃ o c, i = .hregion o c) ∨ i = .hline ∨ (∃ sel, i = .hnext sel) ∨ i.codeWord? ≠ none) (b : Bool) (s : State) :
    exec i (withSgn b s) = mapNext (withSgn b) (exec i s) := by
  have hcomm := fun pu buf => exec_withPredictorSide hi pu buf s
  have hexec : exec i (withSgn b s) = _ := hcomm { s.pu with sgn := b } s.buf
  rw [hexec]
  cases ht : exec i s with
  | fault f => rfl
  | refused r => rfl
  | next t =>
    obtain ⟨hpu, hbuf⟩ := frame_of_commutes_predictorSide hcomm ht
    simp only [mapNext, withPredictorSide, withSgn, hpu, hbuf]

/-- Settles O22: `PCREATE` overwrites `sgn`, every other instruction passes it through. -/
theorem signednessIsReadByNoCommand : Obligations.SignednessIsReadByNoCommand := by
  intro i s b
  cases instrShape i with
  | resolve kind bits => exact forgetSgn_exec_of_commutes (exec_resolve_withSgn kind bits b s)
  | pcreate kind bits order spp width => exact congrArg _ (exec_pcreate_withSgn kind bits order spp width b s)
  | preverse start stop => exact forgetSgn_exec_of_commutes (exec_preverse_withSgn start stop b s)
  | hregion offset count => exact forgetSgn_exec_of_commutes (exec_huSide_withSgn (.inl ⟨offset, count, rfl⟩) b s)
  | hline => exact forgetSgn_exec_of_commutes (exec_huSide_withSgn (.inr (.inl rfl)) b s)
  | hnext sel => exact forgetSgn_exec_of_commutes (exec_huSide_withSgn (.inr (.inr (.inl ⟨sel, rfl⟩))) b s)
  | codeWord hword =>
    exact forgetSgn_exec_of_commutes (exec_huSide_withSgn (.inr (.inr (.inr (by simp [hword])))) b s)

end Sys2Proof.Machine

/-! SUPPORT. Proofs of the statements about `PREVERSE` and the integer additions (spec 41_predictor): the checks before any access, the
cursor, what each sample decodes to, what the carry buffer holds, and that a region may be cut anywhere. -/

namespace Sys2Proof.Machine
open Sys2Proof

/-! ### The integer additions -/

/-- A sum at a smaller width is the sum modulo that width. -/
theorem toNat_setWidth_add {n : Nat} (hn : n ≤ 64) (d prev : Sample) :
    ((d.setWidth n + prev.setWidth n).setWidth 64).toNat = (d.toNat + prev.toNat) % 2 ^ n := by
  rw [BitVec.toNat_setWidth_of_le hn, BitVec.toNat_add, BitVec.toNat_setWidth, BitVec.toNat_setWidth, ← Nat.add_mod]

/-- Settles O25: each addition is a sum at the variant's width. -/
theorem integerAdditionsWrap : Obligations.IntegerAdditionsWrap := fun _ d prev =>
  ⟨toNat_setWidth_add (by decide) d prev, toNat_setWidth_add (by decide) d prev, toNat_setWidth_add (by decide) d prev,
    BitVec.toNat_add d prev⟩

/-- The sum of an integer variant, with the variant's size in place of its width. -/
theorem toNat_sampleAdd_of_isInteger (impl : FloatAdd) {v : Variant} (hv : v.isInteger = true) (d prev : Sample) :
    (sampleAdd impl v d prev).toNat = (d.toNat + prev.toNat) % 2 ^ (8 * (variantSize v).toNat) := by
  obtain ⟨h8, h16, h32, h64⟩ := integerAdditionsWrap impl d prev
  cases v with
  | i8 => exact h8
  | i16 => exact h16
  | i32 => exact h32
  | i64 => exact h64
  | f32 => cases hv
  | f64 => cases hv

/-! ### The checks, and the cursor -/

/-- Settles O28: of the three ends of a `PREVERSE`, the hypotheses leave the one. -/
theorem preverseRefusesBeforeAnyAccess : Obligations.PreverseRefusesBeforeAnyAccess := by
  refine fun s a b => ⟨fun hv => ?_, fun hv hrange => ?_⟩ <;>
    rcases exec_preverse_cases a b s with ⟨hno, h⟩ | ⟨hyes, -, h⟩ | ⟨hyes, hab, hb, -⟩
  · exact h
  · simp [hv] at hyes
  · simp [hv] at hyes
  · simp [hv] at hno
  · exact h
  · omega

theorem samplesPerPixel_pos {cfg : Params} {pu : PU} (h : PUInstance cfg pu) : 0 < pu.samplesPerPixel.toNat := by
  obtain ⟨-, hbands, -⟩ := h
  exact hbands

theorem sampleSize_pos {cfg : Params} {pu : PU} (h : PUInstance cfg pu) : 0 < pu.sampleSize.toNat := by
  obtain ⟨hsize, -⟩ := h
  exact hsize ▸ variantSize_pos pu.variant

theorem saved_length {cfg : Params} {pu : PU} (h : PUInstance cfg pu) : pu.saved.length = pu.samplesPerPixel.toNat := by
  obtain ⟨-, -, -, -, -, -, -, -, hbands, -⟩ := h
  exact hbands

theorem saved_fits {cfg : Params} {pu : PU} (h : PUInstance cfg pu) : ∀ v ∈ pu.saved, SampleFits pu.sampleSize.toNat v := by
  obtain ⟨-, -, -, -, -, -, -, -, -, hfits⟩ := h
  exact hfits

/-- The position a `PREVERSE` answers (spec 41_predictor R167). -/
def preverseResult (pu : PU) (a b : Word) : Word :=
  BitVec.ofNat 32 (a.toNat + sampleCount pu a.toNat b.toNat * pu.sampleSize.toNat)

/-- The answer is inside the region, so it is not cut off. -/
theorem toNat_preverseResult (pu : PU) {a b : Word} (hab : a.toNat ≤ b.toNat) :
    (preverseResult pu a b).toNat = a.toNat + sampleCount pu a.toNat b.toNat * pu.sampleSize.toNat :=
  Nat.mod_eq_of_lt ((sampleCount_mul_le pu hab).trans_lt b.isLt)

/-- The new `column`, as a number: it is inside the row and so is not cut off. -/
theorem toNat_rowOffset {cfg : Params} {pu : PU} (h : PUInstance cfg pu) (k : Nat) :
    (BitVec.ofNat 32 (rowOffset pu k)).toNat = rowOffset pu k := by
  obtain ⟨-, -, -, -, -, -, -, hcolumn, -⟩ := h
  exact Nat.mod_eq_of_lt ((Nat.mod_lt _ (by omega)).trans pu.scanlineStride.isLt)

/-- Settles O29: the answer of `preverseDone`, with its two words as numbers. -/
theorem preverseCompletesAndMovesTheCursor : Obligations.PreverseCompletesAndMovesTheCursor := by
  intro s a b hv hinst hab hb
  have hret := toNat_preverseResult s.pu hab
  have hrest := Nat.mod_lt (b.toNat - a.toNat) (sampleSize_pos hinst)
  have hsplit := Nat.div_add_mod' (b.toNat - a.toNat) s.pu.sampleSize.toNat
  obtain ⟨haligned, hinside⟩ := rowOffset_column hinst (sampleCount s.pu a.toNat b.toNat)
  refine ⟨_, _, _, preverseResult s.pu a b, exec_preverse_inside hv hab hb, hret, ?_, ?_, ?_, haligned, hinside⟩
  · exact hret.trans_le (sampleCount_mul_le s.pu hab)
  · rw [hret, sampleCount]
    omega
  · rw [toNat_rowOffset hinst, hret, Nat.add_sub_cancel_left]
    rfl

/-! ### Bands -/

/-- Bands follow one another sample by sample, and begin again after a pixel (spec 41_predictor R163). -/
theorem sampleBand_eq {cfg : Params} {pu : PU} (h : PUInstance cfg pu) (k : Nat) :
    sampleBand pu k = (pu.column.toNat / pu.sampleSize.toNat + k) % pu.samplesPerPixel.toNat := by
  have hsize := sampleSize_pos h
  obtain ⟨-, -, -, -, hstride, hscan, hcolumn, -⟩ := h
  have hoffset : pu.column.toNat + k * pu.sampleSize.toNat =
      (pu.column.toNat / pu.sampleSize.toNat + k) * pu.sampleSize.toNat := by
    rw [Nat.add_mul, Nat.div_mul_cancel (Nat.dvd_of_mod_eq_zero hcolumn)]
  rw [sampleBand, rowOffset, Nat.mod_mod_of_dvd _ (hscan ▸ Nat.dvd_mul_left ..), hoffset, hstride,
    Nat.mul_mod_mul_right, Nat.mul_div_cancel _ hsize]

theorem sampleBand_lt {cfg : Params} {pu : PU} (h : PUInstance cfg pu) (k : Nat) :
    sampleBand pu k < pu.samplesPerPixel.toNat := by
  rw [sampleBand_eq h]
  exact Nat.mod_lt _ (samplesPerPixel_pos h)

/-- Samples closer than a pixel are of different bands. -/
theorem sampleBand_ne {cfg : Params} {pu : PU} (h : PUInstance cfg pu) {j k : Nat} (hjk : j < k)
    (hnear : k < j + pu.samplesPerPixel.toNat) : sampleBand pu j ≠ sampleBand pu k := by
  rw [sampleBand_eq h, sampleBand_eq h]
  intro heq
  have hdvd := (Nat.modEq_iff_dvd' (by omega)).1 heq
  have := Nat.le_of_dvd (by omega) hdvd
  omega

/-- The sample one pixel before is of the same band. -/
theorem sampleBand_sub {cfg : Params} {pu : PU} (h : PUInstance cfg pu) {k : Nat} (hk : pu.samplesPerPixel.toNat ≤ k) :
    sampleBand pu (k - pu.samplesPerPixel.toNat) = sampleBand pu k := by
  rw [sampleBand_eq h, sampleBand_eq h, ← Nat.add_sub_assoc hk]
  exact (Nat.mod_eq_sub_mod (hk.trans (Nat.le_add_left ..))).symm

/-- A sample has the one a pixel before it in the region when it is not in the first pixel of the region. -/
theorem pixelStride_le_iff {cfg : Params} {pu : PU} (h : PUInstance cfg pu) (k : Nat) :
    pu.pixelStride.toNat ≤ k * pu.sampleSize.toNat ↔ pu.samplesPerPixel.toNat ≤ k := by
  have hsize := sampleSize_pos h
  obtain ⟨-, -, -, -, hstride, -⟩ := h
  rw [hstride]
  exact Nat.mul_le_mul_right_iff hsize

/-- The position one pixel before a sample is that of a sample. -/
theorem position_sub_pixelStride {cfg : Params} {pu : PU} (h : PUInstance cfg pu) (a : Nat) {k : Nat}
    (hk : pu.samplesPerPixel.toNat ≤ k) :
    a + k * pu.sampleSize.toNat - pu.pixelStride.toNat =
      a + (k - pu.samplesPerPixel.toNat) * pu.sampleSize.toNat := by
  have hle := (pixelStride_le_iff h k).2 hk
  obtain ⟨-, -, -, -, hstride, -⟩ := h
  rw [Nat.add_sub_assoc hle, Nat.sub_mul, hstride]

/-! ### One sample -/

/-- The value that a sample is added to (spec 41_predictor R165). -/
def previousSample (pu : PU) (a k : Nat) (p : Pass) : Sample :=
  if pu.pixelStride.toNat ≤ k * pu.sampleSize.toNat then
    loadSample pu.byteOrder pu.sampleSize.toNat p.buf (a + k * pu.sampleSize.toNat - pu.pixelStride.toNat)
  else savedGet p.saved (sampleBand pu k)

/-- What a sample decodes to (spec 41_predictor R164, R165). -/
def decodedSample (impl : FloatAdd) (pu : PU) (a k : Nat) (p : Pass) : Sample :=
  if rowOffset pu k < pu.pixelStride.toNat then sampleAt pu p.buf a k
  else sampleAdd impl pu.variant (sampleAt pu p.buf a k) (previousSample pu a k p)

theorem decodedSample_firstPixel (impl : FloatAdd) {pu : PU} {k : Nat} (h : rowOffset pu k < pu.pixelStride.toNat)
    (a : Nat) (p : Pass) : decodedSample impl pu a k p = sampleAt pu p.buf a k := if_pos h

theorem decodedSample_laterPixel (impl : FloatAdd) {pu : PU} {k : Nat} (h : pu.pixelStride.toNat ≤ rowOffset pu k)
    (a : Nat) (p : Pass) :
    decodedSample impl pu a k p = sampleAdd impl pu.variant (sampleAt pu p.buf a k) (previousSample pu a k p) :=
  if_neg (Nat.not_lt.2 h)

/-- One iteration stores the decoded sample, unless it is of a first pixel, and carries it (spec 41_predictor R166). -/
theorem reverseSample_eq (impl : FloatAdd) (pu : PU) (a k : Nat) (p : Pass) :
    reverseSample impl pu a k p =
      { buf :=
          if rowOffset pu k < pu.pixelStride.toNat then p.buf
          else storeSample pu.byteOrder pu.sampleSize.toNat p.buf (a + k * pu.sampleSize.toNat)
            (decodedSample impl pu a k p)
        saved := savedSet p.saved (sampleBand pu k) (decodedSample impl pu a k p) } := by
  by_cases hfirst : rowOffset pu k < pu.pixelStride.toNat
  · simp only [reverseSample, decodedSample, sampleAt, if_pos hfirst]
  · simp only [reverseSample, decodedSample, previousSample, sampleAt, if_neg hfirst]

@[simp] theorem reverseSample_saved (impl : FloatAdd) (pu : PU) (a k : Nat) (p : Pass) :
    (reverseSample impl pu a k p).saved = savedSet p.saved (sampleBand pu k) (decodedSample impl pu a k p) := by
  rw [reverseSample_eq]

theorem decodedSample_fits (impl : FloatAdd) {cfg : Params} {pu : PU} (h : PUInstance cfg pu) (a k : Nat) (p : Pass) :
    SampleFits pu.sampleSize.toNat (decodedSample impl pu a k p) := by
  obtain ⟨hsize, -⟩ := h
  rw [decodedSample]
  split
  · exact loadSample_fits ..
  · rw [hsize]
    exact sampleAdd_fits ..

/-- An iteration leaves in `BUF` what its sample decodes to. -/
theorem sampleAt_reverseSample_same (impl : FloatAdd) {cfg : Params} {pu : PU} (h : PUInstance cfg pu) (a k : Nat)
    (p : Pass) : sampleAt pu (reverseSample impl pu a k p).buf a k = decodedSample impl pu a k p := by
  rw [reverseSample_eq]
  by_cases hfirst : rowOffset pu k < pu.pixelStride.toNat
  · rw [if_pos hfirst, decodedSample_firstPixel impl hfirst]
  · rw [if_neg hfirst]
    exact loadSample_storeSample _ _ _ (decodedSample_fits impl h a k p)

/-- An iteration leaves every other sample of the region. -/
theorem sampleAt_reverseSample_ne (impl : FloatAdd) (pu : PU) (a : Nat) {j k : Nat} (hjk : j ≠ k) (p : Pass) :
    sampleAt pu (reverseSample impl pu a k p).buf a j = sampleAt pu p.buf a j := by
  refine loadSample_congr _ _ fun i hi => memGet?_reverseSample impl pu a k p ?_
  rcases Nat.lt_or_gt_of_ne hjk with hlt | hgt
  · have := sample_end_le pu.sampleSize.toNat hlt
    omega
  · have := sample_end_le pu.sampleSize.toNat hgt
    omega

/-! ### A pass -/

@[simp] theorem reversePass_saved_length (impl : FloatAdd) (pu : PU) (a n k : Nat) (p : Pass) :
    (reversePass impl pu a n k p).saved.length = p.saved.length := by
  induction n generalizing k p with
  | zero => rfl
  | succ n ih => rw [reversePass, ih, reverseSample_saved, savedSet_length]

theorem reversePass_saved_fits (impl : FloatAdd) {cfg : Params} {pu : PU} (h : PUInstance cfg pu) (a n k : Nat) {p : Pass}
    (hp : ∀ v ∈ p.saved, SampleFits pu.sampleSize.toNat v) :
    ∀ v ∈ (reversePass impl pu a n k p).saved, SampleFits pu.sampleSize.toNat v := by
  induction n generalizing k p with
  | zero => exact hp
  | succ n ih =>
    refine ih (k + 1) ?_
    rw [reverseSample_saved]
    exact savedSet_fits (decodedSample_fits impl h a k p) hp

/-- From iteration `m` on, a pass leaves a sample that it does not come to. -/
theorem sampleAt_reversePass_frame (impl : FloatAdd) (pu : PU) (a : Nat) {j m n : Nat} (hmn : m ≤ n) (p : Pass)
    (hj : ∀ k, m ≤ k → k < n → j ≠ k) :
    sampleAt pu (reversePass impl pu a n 0 p).buf a j = sampleAt pu (reversePass impl pu a m 0 p).buf a j := by
  induction n, hmn using Nat.le_induction with
  | base => rfl
  | succ n hmn ih =>
    rw [reversePass_succ, Nat.zero_add, sampleAt_reverseSample_ne impl pu a (hj n hmn (by omega)),
      ih fun k hk hkn => hj k hk (by omega)]

/-- From iteration `m` on, a pass leaves the carry value of a band that has no sample there. -/
theorem savedGet_reversePass_frame (impl : FloatAdd) (pu : PU) (a : Nat) {band m n : Nat} (hmn : m ≤ n) (p : Pass)
    (hband : ∀ k, m ≤ k → k < n → sampleBand pu k ≠ band) :
    savedGet (reversePass impl pu a n 0 p).saved band = savedGet (reversePass impl pu a m 0 p).saved band := by
  induction n, hmn using Nat.le_induction with
  | base => rfl
  | succ n hmn ih =>
    rw [reversePass_succ, Nat.zero_add, reverseSample_saved, savedGet_savedSet_ne _ _ (hband n hmn (by omega)),
      ih fun k hk hkn => hband k hk (by omega)]

/-- A sample that a pass has not come to is as it was. -/
theorem sampleAt_reversePass_before (impl : FloatAdd) (pu : PU) (a k : Nat) (p : Pass) :
    sampleAt pu (reversePass impl pu a k 0 p).buf a k = sampleAt pu p.buf a k :=
  sampleAt_reversePass_frame impl pu a (Nat.zero_le k) p (by omega)

section Pass

variable (impl : FloatAdd) {cfg : Params} {pu : PU} (h : PUInstance cfg pu) (a : Nat) {p : Pass}

include h

/-- Every sample of a pass ends as what it decodes to when the pass comes to it. -/
theorem sampleAt_reversePass {k n : Nat} (hk : k < n) (p : Pass) :
    sampleAt pu (reversePass impl pu a n 0 p).buf a k = decodedSample impl pu a k (reversePass impl pu a k 0 p) := by
  rw [sampleAt_reversePass_frame impl pu a (Nat.succ_le_of_lt hk) p (by omega), reversePass_succ, Nat.zero_add,
    sampleAt_reverseSample_same impl h]

/-- The carry buffer holds the last sample of a band (spec 41_predictor R166). -/
theorem savedGet_reversePass_last (hbands : p.saved.length = pu.samplesPerPixel.toNat) {k n : Nat} (hk : k < n)
    (hlast : ∀ k', k < k' → k' < n → sampleBand pu k' ≠ sampleBand pu k) :
    savedGet (reversePass impl pu a n 0 p).saved (sampleBand pu k) =
      sampleAt pu (reversePass impl pu a n 0 p).buf a k := by
  have hband : sampleBand pu k < (reversePass impl pu a k 0 p).saved.length := by
    rw [reversePass_saved_length, hbands]
    exact sampleBand_lt h k
  rw [sampleAt_reversePass impl h a hk, savedGet_reversePass_frame impl pu a (Nat.succ_le_of_lt hk) p hlast,
    reversePass_succ, Nat.zero_add, reverseSample_saved, savedGet_savedSet_same _ _ hband]

/-- The first samples of a call are added to the carry buffer as it was before the call. -/
theorem savedGet_reversePass_firstPixel {k : Nat} (hk : k < pu.samplesPerPixel.toNat) (p : Pass) :
    savedGet (reversePass impl pu a k 0 p).saved (sampleBand pu k) = savedGet p.saved (sampleBand pu k) :=
  savedGet_reversePass_frame impl pu a (Nat.zero_le k) p fun j _ hj => sampleBand_ne h hj (by omega)

/-- Where the sample a pixel before is in the region, it is read from there as it was decoded. -/
theorem previousSample_eq_sampleAt {k : Nat} (hk : pu.samplesPerPixel.toNat ≤ k) (p : Pass) :
    previousSample pu a k p = sampleAt pu p.buf a (k - pu.samplesPerPixel.toNat) := by
  rw [previousSample, if_pos ((pixelStride_le_iff h k).2 hk), position_sub_pixelStride h a hk]
  rfl

theorem previousSample_eq_savedGet {k : Nat} (hk : k < pu.samplesPerPixel.toNat) (p : Pass) :
    previousSample pu a k p = savedGet p.saved (sampleBand pu k) :=
  if_neg fun hle => absurd ((pixelStride_le_iff h k).1 hle) (by omega)

/-- `BUF` and the carry buffer agree on the preceding value: it could always be taken from the carry buffer. -/
theorem previousSample_reversePass (hbands : p.saved.length = pu.samplesPerPixel.toNat) (k : Nat) :
    previousSample pu a k (reversePass impl pu a k 0 p) =
      savedGet (reversePass impl pu a k 0 p).saved (sampleBand pu k) := by
  rcases Nat.lt_or_ge k pu.samplesPerPixel.toNat with hlt | hge
  · exact previousSample_eq_savedGet h a hlt _
  · have hpos := samplesPerPixel_pos h
    rw [previousSample_eq_sampleAt h a hge, ← sampleBand_sub h hge]
    refine (savedGet_reversePass_last impl h a hbands (by omega) fun j hj hjk => ?_).symm
    rw [sampleBand_sub h hge]
    exact sampleBand_ne h hjk (by omega)

end Pass

/-! ### What a `PREVERSE` decodes and carries -/

/-- Settles O30: each sample ends as it decodes when the pass comes to it, and the value before it is not changed after. -/
theorem preverseDecodesEverySample : Obligations.PreverseDecodesEverySample := by
  intro s a b hv h hab hb
  refine ⟨_, exec_preverse_inside hv hab hb, fun k hk => ?_⟩
  have hfinal := sampleAt_reversePass s.cfg.fadd h a.toNat hk ⟨s.buf, s.pu.saved⟩
  have hstored := sampleAt_reversePass_before s.cfg.fadd s.pu a.toNat k ⟨s.buf, s.pu.saved⟩
  refine ⟨fun hfirst => ?_, fun hlater => ?_⟩
  · exact hfinal.trans ((decodedSample_firstPixel _ hfirst _ _).trans hstored)
  · refine hfinal.trans ((decodedSample_laterPixel _ hlater _ _).trans ?_)
    rw [hstored]
    congr 1
    rcases Nat.lt_or_ge k s.pu.samplesPerPixel.toNat with hlt | hge
    · rw [if_neg (by rw [pixelStride_le_iff h]; omega), previousSample_eq_savedGet h _ hlt,
        savedGet_reversePass_firstPixel s.cfg.fadd h _ hlt]
      rfl
    · rw [if_pos ((pixelStride_le_iff h k).2 hge), previousSample_eq_sampleAt h _ hge]
      have hpos := samplesPerPixel_pos h
      exact (sampleAt_reversePass_frame s.cfg.fadd s.pu a.toNat (Nat.le_of_lt hk) _ (by omega)).symm

/-- Settles O31: the last sample of a band is carried, and a band without one is left. -/
theorem preverseCarriesTheLastSampleOfEachBand : Obligations.PreverseCarriesTheLastSampleOfEachBand := by
  intro s a b hv h hab hb
  refine ⟨_, exec_preverse_inside hv hab hb, fun band _ => ⟨fun k hk hband hlast => ?_, fun hnone => ?_⟩⟩
  · subst hband
    exact savedGet_reversePass_last s.cfg.fadd h a.toNat (saved_length h) hk hlast
  · exact savedGet_reversePass_frame s.cfg.fadd s.pu a.toNat (Nat.zero_le _) _ fun k _ hk => hnone k hk

/-! ### The round trip of integer differences -/

theorem rowOffset_of_column_zero {pu : PU} (hcolumn : pu.column = 0) (j : Nat) :
    rowOffset pu j = j * pu.sampleSize.toNat % pu.scanlineStride.toNat := by
  rw [rowOffset, hcolumn]
  exact congrArg (· % _) (Nat.zero_add _)

/-- In a call that begins with a row, a sample after a first pixel has the sample one pixel before it in the region. -/
theorem samplesPerPixel_le_of_laterPixel {cfg : Params} {pu : PU} (h : PUInstance cfg pu) (hcolumn : pu.column = 0) {j : Nat}
    (hlater : pu.pixelStride.toNat ≤ rowOffset pu j) : pu.samplesPerPixel.toNat ≤ j := by
  rw [rowOffset_of_column_zero hcolumn] at hlater
  exact (pixelStride_le_iff h j).1 (hlater.trans (Nat.mod_le _ _))

/-- A difference modulo `M` and the value it was taken from make the value again. -/
theorem sub_mod_add_mod {M x y : Nat} (hx : x < M) (hy : y < M) : ((x + M - y) % M + y) % M = x := by
  rw [Nat.mod_add_mod, Nat.sub_add_cancel (by omega), Nat.add_mod_right, Nat.mod_eq_of_lt hx]

/-- Settles O35, by induction on the sample: its difference is added to the sample decoded one pixel before. -/
theorem integerDifferencesRoundTrip : Obligations.IntegerDifferencesRoundTrip := by
  intro s a b n x hv h hint hcolumn hlen hb hfits henc
  have hab : a.toNat ≤ b.toNat := by omega
  obtain ⟨t, ht, hdec⟩ := preverseDecodesEverySample s a b hv h hab hb
  have hcount : (b.toNat - a.toNat) / s.pu.sampleSize.toNat = n := by
    rw [hlen, Nat.add_sub_cancel_left, Nat.mul_div_cancel _ (sampleSize_pos h)]
  refine ⟨t, ht, fun j => ?_⟩
  induction j using Nat.strong_induction_on with
  | _ j ih =>
    intro hj
    obtain ⟨hfirst, hlater⟩ := hdec j (hcount ▸ hj)
    have hdiff := henc j hj
    rw [encodedAt, ← rowOffset_of_column_zero hcolumn] at hdiff
    apply BitVec.eq_of_toNat_eq
    rcases Nat.lt_or_ge (rowOffset s.pu j) s.pu.pixelStride.toNat with hlt | hge
    · rw [hfirst hlt, hdiff, if_pos hlt]
    · have hspp := samplesPerPixel_le_of_laterPixel h hcolumn hge
      have hpos := samplesPerPixel_pos h
      have hprev : j - s.pu.samplesPerPixel.toNat < n := by omega
      rw [if_neg (Nat.not_lt.2 hge)] at hdiff
      rw [hlater hge, if_pos ((pixelStride_le_iff h j).2 hspp), ih _ (by omega) hprev,
        toNat_sampleAdd_of_isInteger _ hint, hdiff]
      obtain ⟨hsize, -⟩ := h
      rw [← hsize]
      exact sub_mod_add_mod (hfits j hj) (hfits _ hprev)

/-! ### A region in pieces -/

/-- The registers after `m` samples, as the next call finds them (spec 41_predictor R167). -/
def puAfter (pu : PU) (m : Nat) (saved : List Sample) : PU :=
  { pu with saved := saved, column := BitVec.ofNat 32 (rowOffset pu m) }

theorem preverseDone_pu (start stop : Word) (s : State) :
    (preverseDone start stop s).pu =
      puAfter s.pu (sampleCount s.pu start.toNat stop.toNat) (preversePass start stop s).saved := rfl

theorem puInstance_puAfter {cfg : Params} {pu : PU} (h : PUInstance cfg pu) (m : Nat) {saved : List Sample}
    (hlen : saved.length = pu.saved.length) (hfits : ∀ v ∈ saved, SampleFits pu.sampleSize.toNat v) :
    PUInstance cfg (puAfter pu m saved) := by
  obtain ⟨haligned, hinside⟩ := rowOffset_column h m
  obtain ⟨hsize, hpos, hbands, hwidth, hstride, hscan, -, -, hsaved, -⟩ := h
  exact ⟨hsize, hpos, hbands, hwidth, hstride, hscan, haligned, hinside, hlen.trans hsaved, hfits⟩

theorem rowOffset_puAfter {cfg : Params} {pu : PU} (h : PUInstance cfg pu) (m k : Nat) (saved : List Sample) :
    rowOffset (puAfter pu m saved) k = rowOffset pu (m + k) := by
  have hcolumn : (puAfter pu m saved).column.toNat = rowOffset pu m := toNat_rowOffset h m
  rw [rowOffset, hcolumn, rowOffset, rowOffset, Nat.add_mul, ← Nat.add_assoc]
  exact Nat.mod_add_mod ..

theorem sampleBand_puAfter {cfg : Params} {pu : PU} (h : PUInstance cfg pu) (m k : Nat) (saved : List Sample) :
    sampleBand (puAfter pu m saved) k = sampleBand pu (m + k) := by
  rw [sampleBand, rowOffset_puAfter h]
  rfl

/-- An iteration of the next call is the one this call would have gone on with, when both add the same value. -/
theorem reverseSample_puAfter (impl : FloatAdd) {cfg : Params} {pu : PU} (h : PUInstance cfg pu) (a m k : Nat)
    (saved : List Sample) (p : Pass)
    (hprev : previousSample (puAfter pu m saved) (a + m * pu.sampleSize.toNat) k p = previousSample pu a (m + k) p) :
    reverseSample impl (puAfter pu m saved) (a + m * pu.sampleSize.toNat) k p = reverseSample impl pu a (m + k) p := by
  have hpos : a + m * pu.sampleSize.toNat + k * pu.sampleSize.toNat = a + (m + k) * pu.sampleSize.toNat := by
    rw [Nat.add_mul, Nat.add_assoc]
  have hsample : sampleAt (puAfter pu m saved) p.buf (a + m * pu.sampleSize.toNat) k = sampleAt pu p.buf a (m + k) :=
    congrArg (loadSample pu.byteOrder pu.sampleSize.toNat p.buf) hpos
  have hdecoded : decodedSample impl (puAfter pu m saved) (a + m * pu.sampleSize.toNat) k p =
      decodedSample impl pu a (m + k) p := by
    rw [decodedSample, hprev, hsample, rowOffset_puAfter h]
    rfl
  rw [reverseSample_eq, reverseSample_eq, hdecoded, rowOffset_puAfter h, sampleBand_puAfter h, ← hpos]
  rfl

/-- A pass may end after any sample and be taken up by the next call, which finds in the carry buffer what this one would have
read from `BUF` (spec 41_predictor R178). -/
theorem reversePass_puAfter (impl : FloatAdd) {cfg : Params} {pu : PU} (h : PUInstance cfg pu) (a m n : Nat) {p : Pass}
    (hlen : p.saved.length = pu.saved.length) (hfits : ∀ v ∈ p.saved, SampleFits pu.sampleSize.toNat v) :
    reversePass impl (puAfter pu m (reversePass impl pu a m 0 p).saved) (a + m * pu.sampleSize.toNat) n 0
      (reversePass impl pu a m 0 p) = reversePass impl pu a (m + n) 0 p := by
  have hafter : PUInstance cfg (puAfter pu m (reversePass impl pu a m 0 p).saved) :=
    puInstance_puAfter h m ((reversePass_saved_length ..).trans hlen) (reversePass_saved_fits impl h a m 0 hfits)
  have hbands : p.saved.length = pu.samplesPerPixel.toNat := hlen.trans (saved_length h)
  induction n with
  | zero => rfl
  | succ n ih =>
    have hprev := previousSample_reversePass impl hafter (a + m * pu.sampleSize.toNat) (p := reversePass impl pu a m 0 p)
      ((reversePass_saved_length ..).trans hbands) n
    rw [ih, sampleBand_puAfter h, ← previousSample_reversePass impl h a hbands] at hprev
    rw [reversePass_succ, ih, Nat.zero_add, ← Nat.add_assoc, reversePass_succ, Nat.zero_add]
    exact reverseSample_puAfter impl h a m n _ _ hprev

/-- The samples of a region are those up to a cut and those from the last complete one before it on. -/
theorem sampleCount_add (pu : PU) {a c b : Nat} (hac : a ≤ c) (hcb : c ≤ b) :
    sampleCount pu a c + sampleCount pu (a + sampleCount pu a c * pu.sampleSize.toNat) b = sampleCount pu a b := by
  have hle : sampleCount pu a c ≤ (b - a) / pu.sampleSize.toNat := Nat.div_le_div_right (by omega)
  have hrest : sampleCount pu (a + sampleCount pu a c * pu.sampleSize.toNat) b =
      (b - a) / pu.sampleSize.toNat - sampleCount pu a c := by
    rw [sampleCount, ← Nat.sub_sub, Nat.mul_comm, Nat.sub_mul_div]
  rw [hrest, Nat.add_sub_cancel' hle]
  rfl

/-- Two pieces, the second from where the first returned, end in the state of one call (spec 41_predictor R178). -/
theorem preverseDone_preverseDone {s : State} (h : PUInstance s.cfg s.pu) {start cut stop : Word}
    (hcut : start.toNat ≤ cut.toNat) (hstop : cut.toNat ≤ stop.toNat) :
    preverseDone (preverseResult s.pu start cut) stop (preverseDone start cut s) = preverseDone start stop s := by
  have hret := toNat_preverseResult s.pu hcut
  generalize preverseResult s.pu start cut = ret at hret ⊢
  have hcount := sampleCount_add s.pu hcut hstop
  rw [← hret] at hcount
  have hpass : preversePass ret stop (preverseDone start cut s) = preversePass start stop s := by
    have hsplit := reversePass_puAfter s.cfg.fadd h start.toNat (sampleCount s.pu start.toNat cut.toNat)
      (sampleCount s.pu ret.toNat stop.toNat) (p := ⟨s.buf, s.pu.saved⟩) rfl (saved_fits h)
    rw [← hret, hcount] at hsplit
    exact hsplit
  have hcolumn : rowOffset (preverseDone start cut s).pu (sampleCount s.pu ret.toNat stop.toNat) =
      rowOffset s.pu (sampleCount s.pu start.toNat stop.toNat) := by
    rw [preverseDone_pu, rowOffset_puAfter h, hcount]
  have hanswer : ret.toNat + sampleCount s.pu ret.toNat stop.toNat * s.pu.sampleSize.toNat =
      start.toNat + sampleCount s.pu start.toNat stop.toNat * s.pu.sampleSize.toNat := by
    rw [← hcount, Nat.add_mul, ← Nat.add_assoc, ← hret]
  have hsamples : sampleCount (preverseDone start cut s).pu ret.toNat stop.toNat =
      sampleCount s.pu ret.toNat stop.toNat := rfl
  have hsize : (preverseDone start cut s).pu.sampleSize = s.pu.sampleSize := rfl
  rw [preverseDone, hpass, hsamples, hcolumn, hsize, hanswer]
  rfl

theorem puInstance_preverseDone {s : State} (h : PUInstance s.cfg s.pu) (start stop : Word) :
    PUInstance s.cfg (preverseDone start stop s).pu :=
  puInstance_puAfter h _ (reversePass_saved_length ..) (reversePass_saved_fits s.cfg.fadd h _ _ 0 (saved_fits h))

/-- Settles O34, by induction on the cuts: the first piece and the rest are two pieces. -/
theorem anyCuttingOfARegionDecodesAlike : Obligations.AnyCuttingOfARegionDecodesAlike := by
  intro s start stop cuts
  induction cuts generalizing s start with
  | nil =>
    intro hv h hstop hchain
    obtain ⟨hle, -⟩ := List.isChain_cons_cons.1 hchain
    rw [List.nil_append, presentPieces, exec_preverse_inside hv hle hstop]
    rfl
  | cons cut cuts ih =>
    intro hv h hstop hchain
    obtain ⟨hcut, hrest⟩ := List.isChain_cons_cons.1 hchain
    obtain ⟨hhead, htail⟩ := List.isChain_cons.1 hrest
    have hle : cut.toNat ≤ stop.toNat := List.rel_of_pairwise_cons (List.isChain_iff_pairwise.1 hrest) (by simp)
    have hret : (preverseResult s.pu start cut).toNat ≤ cut.toNat :=
      (toNat_preverseResult s.pu hcut).trans_le (sampleCount_mul_le s.pu hcut)
    have hpieces : presentPieces (cuts ++ [stop]) (preverseResult s.pu start cut) (preverseDone start cut s) = _ :=
      ih (preverseDone start cut s) _ hv (puInstance_preverseDone h start cut) hstop
        (List.isChain_cons.2 ⟨fun y hy => hret.trans (hhead y hy), htail⟩)
    calc presentPieces (cut :: cuts ++ [stop]) start s
        = presentPieces (cuts ++ [stop]) (preverseResult s.pu start cut) (preverseDone start cut s) := by
          rw [List.cons_append, presentPieces, exec_preverse_inside hv hcut (hle.trans hstop)]
          rfl
      _ = exec (.preverse (preverseResult s.pu start cut) stop) (preverseDone start cut s) := hpieces
      _ = .next (preverseDone (preverseResult s.pu start cut) stop (preverseDone start cut s)) :=
          exec_preverse_inside hv (hret.trans hle) hstop
      _ = exec (.preverse start stop) s := by
          rw [preverseDone_preverseDone h hcut hle, exec_preverse_inside hv (hcut.trans hle) hstop]

end Sys2Proof.Machine

/-! SUPPORT. Proofs of the statements about the default float additions (spec 41_predictor R172, R173), for a format of `ew` exponent
and `fw` fraction bits: the fields of a packed value, the rounding of a magnitude, and the special values. -/

namespace Sys2Proof.Machine
open Sys2Proof

/-! ### The fields of a packed value -/

/-- The infinities lie right above the packed values with a smaller exponent. -/
theorem floatTop_mul_add (ew fw : Nat) : floatTop ew * 2 ^ fw + 2 ^ fw = 2 ^ (ew + fw) := by
  have hpos := Nat.two_pow_pos ew
  rw [← Nat.succ_mul, floatTop, Nat.succ_eq_add_one, Nat.sub_add_cancel hpos, Nat.pow_add]

theorem lt_of_lt_floatTop_mul {ew fw rest : Nat} (h : rest < floatTop ew * 2 ^ fw) : rest < 2 ^ (ew + fw) :=
  (Nat.lt_add_right _ h).trans_eq (floatTop_mul_add ew fw)

theorem floatWithSign_lt {ew fw rest : Nat} (neg : Bool) (h : rest < 2 ^ (ew + fw)) :
    floatWithSign ew fw neg rest < 2 ^ (ew + fw + 1) := by
  rw [Nat.pow_succ]
  cases neg with
  | false => exact h.trans_le (Nat.le_mul_of_pos_right _ (by decide))
  | true =>
    rw [floatWithSign, if_pos rfl]
    omega

theorem floatSign_floatWithSign {ew fw rest : Nat} (neg : Bool) (h : rest < 2 ^ (ew + fw)) :
    floatSign ew fw (floatWithSign ew fw neg rest) = neg := by
  have hclear := Nat.testBit_lt_two_pow h
  cases neg with
  | false => exact hclear
  | true =>
    rw [floatWithSign, if_pos rfl, floatSign, Nat.testBit_two_pow_add_eq, hclear]
    rfl

theorem floatExp_of_lt {ew fw rest : Nat} (h : rest < 2 ^ (ew + fw)) : floatExp ew fw rest = rest / 2 ^ fw := by
  rw [Nat.pow_add, Nat.mul_comm] at h
  exact Nat.mod_eq_of_lt (Nat.div_lt_of_lt_mul h)

@[simp] theorem floatExp_floatWithSign (ew fw : Nat) (neg : Bool) (rest : Nat) :
    floatExp ew fw (floatWithSign ew fw neg rest) = floatExp ew fw rest := by
  cases neg with
  | false => rfl
  | true =>
    rw [floatWithSign, if_pos rfl, floatExp, floatExp, Nat.pow_add, Nat.add_comm,
      Nat.add_mul_div_right _ _ (Nat.two_pow_pos fw), Nat.add_mod_right]

@[simp] theorem floatFrac_floatWithSign (ew fw : Nat) (neg : Bool) (rest : Nat) :
    floatFrac fw (floatWithSign ew fw neg rest) = floatFrac fw rest := by
  cases neg with
  | false => rfl
  | true =>
    rw [floatWithSign, if_pos rfl, floatFrac, floatFrac, Nat.pow_add, Nat.add_comm, Nat.add_mul_mod_self_right]

@[simp] theorem floatMag_floatWithSign (ew fw : Nat) (neg : Bool) (rest : Nat) :
    floatMag ew fw (floatWithSign ew fw neg rest) = floatMag ew fw rest := by
  simp only [floatMag, floatExp_floatWithSign, floatFrac_floatWithSign]

theorem floatVal_floatWithSign {ew fw rest : Nat} (neg : Bool) (h : rest < 2 ^ (ew + fw)) :
    floatVal ew fw (floatWithSign ew fw neg rest) =
      if neg then - (floatMag ew fw rest : Int) else (floatMag ew fw rest : Int) := by
  rw [floatVal, floatSign_floatWithSign neg h, floatMag_floatWithSign]

theorem natAbs_floatVal (ew fw x : Nat) : (floatVal ew fw x).natAbs = floatMag ew fw x := by
  rw [floatVal]
  split <;> omega

/-- Below the exponent field of the infinities a value is finite. -/
theorem floatFinite_floatWithSign {ew fw rest : Nat} (neg : Bool) (h : rest < floatTop ew * 2 ^ fw) :
    FloatFinite ew fw (floatWithSign ew fw neg rest) := by
  have hrest := lt_of_lt_floatTop_mul h
  refine ⟨floatWithSign_lt neg hrest, ?_⟩
  rw [floatExp_floatWithSign, floatExp_of_lt hrest]
  exact Nat.ne_of_lt (Nat.div_lt_of_lt_mul (by rwa [Nat.mul_comm]))

theorem floatWithSign_mod_two {ew fw : Nat} (hfw : 0 < fw) (neg : Bool) (rest : Nat) :
    floatWithSign ew fw neg rest % 2 = rest % 2 := by
  obtain ⟨f, rfl⟩ := Nat.exists_eq_add_of_lt hfw
  cases neg with
  | false => rfl
  | true =>
    rw [floatWithSign, if_pos rfl, ← Nat.add_assoc, ← Nat.add_assoc, Nat.pow_succ]
    omega

/-- A packed value is its sign, exponent and fraction. -/
theorem eq_floatWithSign {ew fw x : Nat} (h : x < 2 ^ (ew + fw + 1)) :
    x = floatWithSign ew fw (floatSign ew fw x) (floatExp ew fw x * 2 ^ fw + floatFrac fw x) := by
  have hrest : floatExp ew fw x * 2 ^ fw + floatFrac fw x = x % 2 ^ (ew + fw) := by
    rw [floatExp, floatFrac, Nat.add_comm ew, Nat.pow_add, Nat.mod_mul, Nat.mul_comm, Nat.add_comm]
  rw [hrest, floatSign]
  rcases Nat.lt_or_ge x (2 ^ (ew + fw)) with hlt | hge
  · rw [Nat.testBit_lt_two_pow hlt, Nat.mod_eq_of_lt hlt]
    rfl
  · obtain ⟨r, rfl⟩ := Nat.exists_eq_add_of_le hge
    have hr : r < 2 ^ (ew + fw) := by
      rw [Nat.pow_succ] at h
      omega
    rw [Nat.testBit_two_pow_add_eq, Nat.testBit_lt_two_pow hr, Nat.add_mod_left, Nat.mod_eq_of_lt hr]
    rfl

/-! ### Magnitudes -/

/-- A normal value with exponent `e + 1`. -/
theorem floatMag_normal {ew fw e f : Nat} (he : e + 1 < 2 ^ ew) (hf : f < 2 ^ fw) :
    floatMag ew fw ((e + 1) * 2 ^ fw + f) = (2 ^ fw + f) * 2 ^ e := by
  have hexp : floatExp ew fw ((e + 1) * 2 ^ fw + f) = e + 1 := by
    rw [floatExp, Nat.add_comm, Nat.add_mul_div_right _ _ (Nat.two_pow_pos fw), Nat.div_eq_of_lt hf, Nat.zero_add,
      Nat.mod_eq_of_lt he]
  have hfrac : floatFrac fw ((e + 1) * 2 ^ fw + f) = f := by
    rw [floatFrac, Nat.mul_add_mod_self_right, Nat.mod_eq_of_lt hf]
  rw [floatMag, hexp, hfrac, if_neg (Nat.succ_ne_zero e), Nat.add_sub_cancel]

theorem floatMag_subnormal (ew : Nat) {fw f : Nat} (hf : f < 2 ^ fw) : floatMag ew fw f = f := by
  have hexp : floatExp ew fw f = 0 := by rw [floatExp, Nat.div_eq_of_lt hf, Nat.zero_mod]
  rw [floatMag, if_pos hexp, floatFrac, Nat.mod_eq_of_lt hf]

/-- The magnitude of a significand `s` scaled by `2 ^ k`; a significand one too large is that of the next exponent. -/
theorem floatMag_scaled {ew fw k s : Nat} (hlo : 2 ^ fw ≤ s) (hhi : s ≤ 2 ^ (fw + 1))
    (h : k * 2 ^ fw + s < floatTop ew * 2 ^ fw) : floatMag ew fw (k * 2 ^ fw + s) = s * 2 ^ k := by
  have hpos := Nat.two_pow_pos fw
  have htop : floatTop ew < 2 ^ ew := Nat.sub_lt (Nat.two_pow_pos ew) Nat.one_pos
  rw [Nat.pow_succ] at hhi
  rcases Nat.lt_or_eq_of_le hhi with hlt | rfl
  · obtain ⟨f, rfl⟩ := Nat.exists_eq_add_of_le hlo
    rw [← Nat.add_assoc, ← Nat.succ_mul] at h ⊢
    have hk : k + 1 < floatTop ew := Nat.lt_of_mul_lt_mul_right ((Nat.le_add_right _ f).trans_lt h)
    exact floatMag_normal (by omega) (by omega)
  · rw [Nat.mul_comm (2 ^ fw) 2, ← Nat.add_mul] at h ⊢
    have hk := Nat.lt_of_mul_lt_mul_right h
    have hnormal := floatMag_normal (ew := ew) (fw := fw) (e := k + 1) (f := 0) (by omega) hpos
    simp only [Nat.add_zero] at hnormal
    rw [Nat.pow_succ, Nat.mul_comm (2 ^ k), ← Nat.mul_assoc] at hnormal
    rw [hnormal, Nat.mul_comm 2]

/-- Every magnitude is a significand of `fw + 1` bits, scaled. -/
theorem exists_significand (ew fw x : Nat) : ∃ s e, floatMag ew fw x = s * 2 ^ e ∧ s < 2 ^ (fw + 1) := by
  have hfrac : floatFrac fw x < 2 ^ fw := Nat.mod_lt _ (Nat.two_pow_pos fw)
  rw [Nat.pow_succ, floatMag]
  split
  · exact ⟨floatFrac fw x, 0, (Nat.mul_one _).symm, by omega⟩
  · exact ⟨_, _, rfl, by omega⟩

/-- No magnitude lies between two neighbouring multiples of `2 ^ k`, the lower with `fw + 1` significant bits. -/
theorem floatMag_not_between (ew : Nat) {fw q : Nat} (hq : 2 ^ fw ≤ q) (k x : Nat) :
    floatMag ew fw x ≤ q * 2 ^ k ∨ (q + 1) * 2 ^ k ≤ floatMag ew fw x := by
  obtain ⟨s, e, hmag, hs⟩ := exists_significand ew fw x
  rw [hmag]
  rcases Nat.lt_or_ge e k with hlt | hge
  · left
    calc s * 2 ^ e ≤ 2 ^ (fw + 1) * 2 ^ e := Nat.mul_le_mul_right _ (Nat.le_of_lt hs)
      _ = 2 ^ fw * 2 ^ (e + 1) := by rw [Nat.pow_succ, Nat.pow_succ, Nat.mul_assoc, Nat.mul_comm 2]
      _ ≤ q * 2 ^ k := Nat.mul_le_mul hq (Nat.pow_le_pow_right (by decide) hlt)
  · obtain ⟨d, rfl⟩ := Nat.exists_eq_add_of_le hge
    rw [Nat.add_comm k, Nat.pow_add, ← Nat.mul_assoc]
    exact (Nat.lt_or_ge q (s * 2 ^ d)).symm.imp (Nat.mul_le_mul_right _) (Nat.mul_le_mul_right _)

/-! ### Rounding a magnitude -/

/-- Rounding goes to the nearer neighbour, and to the even one from half way. -/
theorem roundShift_cases (m k : Nat) :
    (roundShift m k = m / 2 ^ k ∧
      (2 * (m % 2 ^ k) < 2 ^ k ∨ 2 * (m % 2 ^ k) = 2 ^ k ∧ m / 2 ^ k % 2 = 0)) ∨
    (roundShift m k = m / 2 ^ k + 1 ∧
      (2 ^ k < 2 * (m % 2 ^ k) ∨ 2 * (m % 2 ^ k) = 2 ^ k ∧ m / 2 ^ k % 2 = 1)) := by
  simp only [roundShift]
  split <;> omega

/-- `P` packs the magnitude nearest to `m`, or one as near as another and even. -/
def NearestMag (ew fw m P : Nat) : Prop :=
  ∀ z, floatMag ew fw z = floatMag ew fw P ∨
    ((floatMag ew fw P : Int) - m).natAbs < ((floatMag ew fw z : Int) - m).natAbs ∨
    ((floatMag ew fw P : Int) - m).natAbs = ((floatMag ew fw z : Int) - m).natAbs ∧ P % 2 = 0

/-- A magnitude that is one of the format's is its own nearest. -/
theorem nearestMag_of_floatMag_eq {ew fw m P : Nat} (h : floatMag ew fw P = m) : NearestMag ew fw m P := by
  intro z
  omega

/-- A magnitude with `fw + 1` bits above its `k` lowest. -/
structure HasScale (fw k m : Nat) : Prop where
  le_quotient : 2 ^ fw ≤ m / 2 ^ k
  quotient_lt : m / 2 ^ k < 2 ^ (fw + 1)

theorem HasScale.le {fw k m : Nat} (h : HasScale fw k m) : 2 ^ fw * 2 ^ k ≤ m :=
  (Nat.le_div_iff_mul_le (Nat.two_pow_pos k)).1 h.le_quotient

theorem HasScale.lt {fw k m : Nat} (h : HasScale fw k m) : m < 2 ^ (fw + 1) * 2 ^ k :=
  (Nat.div_lt_iff_lt_mul (Nat.two_pow_pos k)).1 h.quotient_lt

theorem HasScale.roundShift_bounds {fw k m : Nat} (h : HasScale fw k m) :
    2 ^ fw ≤ roundShift m k ∧ roundShift m k ≤ 2 ^ (fw + 1) := by
  have hlo := h.le_quotient
  have hhi := h.quotient_lt
  rcases roundShift_cases m k with ⟨heq, -⟩ | ⟨heq, -⟩ <;> omega

/-- A magnitude of more than `fw + 1` bits has the scale that `floatPackMag` takes. -/
theorem hasScale_log2 {fw m : Nat} (h : 2 ^ (fw + 1) ≤ m) : HasScale fw (Nat.log2 m - fw) m := by
  have hne : m ≠ 0 := by have := Nat.two_pow_pos (fw + 1); omega
  have hlog : fw + 1 ≤ Nat.log2 m := (Nat.le_log2 hne).2 h
  have hlo : 2 ^ Nat.log2 m ≤ m := Nat.log2_self_le hne
  have hhi : m < 2 ^ (Nat.log2 m + 1) := Nat.lt_log2_self
  have hsplit : fw + (Nat.log2 m - fw) = Nat.log2 m := by omega
  constructor
  · rw [Nat.le_div_iff_mul_le (Nat.two_pow_pos _), ← Nat.pow_add, hsplit]
    exact hlo
  · rw [Nat.div_lt_iff_lt_mul (Nat.two_pow_pos _), ← Nat.pow_add, Nat.add_right_comm, hsplit]
    exact hhi

/-- The rounded significand with its exponent packs the nearest magnitude. -/
theorem nearestMag_roundShift {ew fw k m : Nat} (hfw : 0 < fw) (h : HasScale fw k m)
    (hfinite : k * 2 ^ fw + roundShift m k < floatTop ew * 2 ^ fw) :
    NearestMag ew fw m (k * 2 ^ fw + roundShift m k) := by
  intro z
  obtain ⟨hlo, hhi⟩ := h.roundShift_bounds
  rw [floatMag_scaled hlo hhi hfinite]
  have hgap := floatMag_not_between ew h.le_quotient k z
  have hparity : (k * 2 ^ fw + roundShift m k) % 2 = roundShift m k % 2 := by
    obtain ⟨f, rfl⟩ := Nat.exists_eq_add_of_lt hfw
    rw [Nat.pow_succ, ← Nat.mul_assoc]
    omega
  have hsplit := Nat.div_add_mod' m (2 ^ k)
  have hrest := Nat.mod_lt m (Nat.two_pow_pos k)
  rw [hparity]
  rw [Nat.succ_mul] at hgap
  rcases roundShift_cases m k with ⟨heq, hcase⟩ | ⟨heq, hcase⟩
  · rw [heq]
    omega
  · rw [heq, Nat.succ_mul]
    omega

/-- With the largest exponent, the significand of ones is the one that can be rounded up to an infinity. -/
theorem roundShift_lt_iff {fw t m : Nat} (h : HasScale fw (t + 1) m) :
    roundShift m (t + 1) < 2 ^ (fw + 1) ↔ m < (2 ^ (fw + 2) - 1) * 2 ^ t := by
  have hq := h.quotient_lt
  have hsplit := Nat.div_add_mod' m (2 ^ (t + 1))
  have hrest := Nat.mod_lt m (Nat.two_pow_pos (t + 1))
  have hcases := roundShift_cases m (t + 1)
  have hthreshold : (2 ^ (fw + 2) - 1) * 2 ^ t = 2 ^ (fw + 1) * 2 ^ (t + 1) - 2 ^ t := by
    rw [Nat.sub_mul, Nat.one_mul, Nat.pow_succ 2 (fw + 1), Nat.mul_assoc, Nat.mul_comm 2, ← Nat.pow_succ]
  rw [hthreshold]
  have hhalf : 2 ^ (t + 1) = 2 ^ t * 2 := Nat.pow_succ ..
  have heven : 2 ^ (fw + 1) = 2 ^ fw * 2 := Nat.pow_succ ..
  rcases Nat.lt_or_eq_of_le (Nat.succ_le_of_lt hq) with hlow | hones
  · have hnext : (m / 2 ^ (t + 1) + 2) * 2 ^ (t + 1) ≤ 2 ^ (fw + 1) * 2 ^ (t + 1) := Nat.mul_le_mul_right _ hlow
    rw [Nat.add_mul] at hnext
    omega
  · have hnext : (m / 2 ^ (t + 1) + 1) * 2 ^ (t + 1) = 2 ^ (fw + 1) * 2 ^ (t + 1) := congrArg (· * _) hones
    rw [Nat.succ_mul] at hnext
    omega

/-- The rounded magnitude is finite exactly below the threshold. -/
theorem roundShift_finite_iff {ew fw k m : Nat} (hew : 2 ≤ ew) (h : HasScale fw k m) :
    k * 2 ^ fw + roundShift m k < floatTop ew * 2 ^ fw ↔ m < floatOverflowAt ew fw := by
  have htop : 2 ^ 2 ≤ 2 ^ ew := Nat.pow_le_pow_right (by decide) hew
  obtain ⟨t, ht⟩ : ∃ t, floatTop ew = t + 3 := ⟨floatTop ew - 3, by rw [floatTop]; omega⟩
  obtain ⟨hlo, hhi⟩ := h.roundShift_bounds
  rw [floatOverflowAt, ht, Nat.add_sub_cancel]
  have hone : 1 ≤ 2 ^ fw := Nat.two_pow_pos fw
  rcases Nat.lt_trichotomy k (t + 1) with hlt | rfl | hgt
  · refine iff_of_true ?_ ?_
    · calc k * 2 ^ fw + roundShift m k ≤ k * 2 ^ fw + 2 ^ (fw + 1) := Nat.add_le_add_left hhi _
        _ = (k + 2) * 2 ^ fw := by rw [Nat.add_mul, Nat.pow_succ, Nat.mul_comm 2]
        _ < (t + 3) * 2 ^ fw := Nat.mul_lt_mul_of_pos_right (by omega) hone
    · calc m < 2 ^ (fw + 1) * 2 ^ k := h.lt
        _ ≤ (2 ^ (fw + 2) - 1) * 2 ^ t :=
          Nat.mul_le_mul (by rw [Nat.pow_succ 2 (fw + 1), Nat.pow_succ]; omega)
            (Nat.pow_le_pow_right (by decide) (Nat.le_of_lt_succ hlt))
  · rw [← roundShift_lt_iff h, show t + 3 = (t + 1) + 2 from rfl, Nat.add_mul (t + 1), Nat.mul_comm 2, ← Nat.pow_succ]
    exact Nat.add_lt_add_iff_left
  · refine iff_of_false (Nat.not_lt.2 ?_) (Nat.not_lt.2 ?_)
    · calc (t + 3) * 2 ^ fw ≤ (k + 1) * 2 ^ fw := Nat.mul_le_mul_right _ (by omega)
        _ = k * 2 ^ fw + 2 ^ fw := Nat.succ_mul ..
        _ ≤ k * 2 ^ fw + roundShift m k := Nat.add_le_add_left hlo _
    · calc (2 ^ (fw + 2) - 1) * 2 ^ t ≤ 2 ^ (fw + 2) * 2 ^ t := Nat.mul_le_mul_right _ (Nat.sub_le ..)
        _ = 2 ^ fw * 2 ^ (t + 2) := by rw [← Nat.pow_add, ← Nat.pow_add, Nat.add_assoc, Nat.add_comm 2]
        _ ≤ 2 ^ fw * 2 ^ k := Nat.mul_le_mul_left _ (Nat.pow_le_pow_right (by decide) hgt)
        _ ≤ m := h.le

/-! ### Packing a magnitude -/

theorem floatPackMag_small {fw m : Nat} (ew : Nat) (h : m < 2 ^ (fw + 1)) : floatPackMag ew fw m = m := if_pos h

theorem floatPackMag_large {fw m : Nat} (ew : Nat) (h : 2 ^ (fw + 1) ≤ m) :
    floatPackMag ew fw m =
      min ((Nat.log2 m - fw) * 2 ^ fw + roundShift m (Nat.log2 m - fw)) (floatTop ew * 2 ^ fw) :=
  if_neg (Nat.not_lt.2 h)

/-- A magnitude of at most `fw + 1` bits is below the infinities, and one of the format's. -/
theorem floatMag_small {ew fw m : Nat} (hew : 2 ≤ ew) (h : m < 2 ^ (fw + 1)) :
    m < floatTop ew * 2 ^ fw ∧ floatMag ew fw m = m := by
  have htop : 2 ^ 2 ≤ 2 ^ ew := Nat.pow_le_pow_right (by decide) hew
  have hbelow : m < floatTop ew * 2 ^ fw := by
    refine h.trans_le ?_
    rw [Nat.pow_succ, Nat.mul_comm]
    exact Nat.mul_le_mul_right _ (by rw [floatTop]; omega)
  refine ⟨hbelow, ?_⟩
  rcases Nat.lt_or_ge m (2 ^ fw) with hsub | hnormal
  · exact floatMag_subnormal ew hsub
  · have hscaled := floatMag_scaled (ew := ew) (k := 0) hnormal (Nat.le_of_lt h) (by rwa [Nat.zero_mul, Nat.zero_add])
    rwa [Nat.zero_mul, Nat.zero_add, Nat.pow_zero, Nat.mul_one] at hscaled

theorem le_floatOverflowAt (ew fw : Nat) : 2 ^ (fw + 1) ≤ floatOverflowAt ew fw := by
  have hone := Nat.two_pow_pos (fw + 1)
  refine le_trans ?_ (Nat.le_mul_of_pos_right _ (Nat.two_pow_pos (floatTop ew - 3)))
  rw [Nat.pow_succ 2 (fw + 1)]
  omega

/-- Below the threshold a magnitude is packed as the nearest one there is (spec 41_predictor R172). -/
theorem floatPackMag_nearest {ew fw m : Nat} (hew : 2 ≤ ew) (hfw : 0 < fw) (h : m < floatOverflowAt ew fw) :
    floatPackMag ew fw m < floatTop ew * 2 ^ fw ∧ NearestMag ew fw m (floatPackMag ew fw m) := by
  rcases Nat.lt_or_ge m (2 ^ (fw + 1)) with hsmall | hlarge
  · obtain ⟨hbelow, hmag⟩ := floatMag_small hew hsmall
    rw [floatPackMag_small ew hsmall]
    exact ⟨hbelow, nearestMag_of_floatMag_eq hmag⟩
  · have hscale := hasScale_log2 hlarge
    have hfinite := (roundShift_finite_iff hew hscale).2 h
    rw [floatPackMag_large ew hlarge, Nat.min_eq_left (Nat.le_of_lt hfinite)]
    exact ⟨hfinite, nearestMag_roundShift hfw hscale hfinite⟩

/-- From the threshold on a magnitude is packed as an infinity. -/
theorem floatPackMag_overflow {ew fw m : Nat} (hew : 2 ≤ ew) (h : floatOverflowAt ew fw ≤ m) :
    floatPackMag ew fw m = floatTop ew * 2 ^ fw := by
  have hlarge := (le_floatOverflowAt ew fw).trans h
  have hinfinite := mt (roundShift_finite_iff hew (hasScale_log2 hlarge)).1 (Nat.not_lt.2 h)
  rw [floatPackMag_large ew hlarge, Nat.min_eq_right (Nat.not_lt.1 hinfinite)]

theorem floatPackMag_lt {ew fw : Nat} (hew : 2 ≤ ew) (hfw : 0 < fw) (m : Nat) :
    floatPackMag ew fw m < 2 ^ (ew + fw) := by
  rcases Nat.lt_or_ge m (floatOverflowAt ew fw) with hlt | hge
  · exact lt_of_lt_floatTop_mul (floatPackMag_nearest hew hfw hlt).1
  · rw [floatPackMag_overflow hew hge, ← floatTop_mul_add]
    exact Nat.lt_add_of_pos_right (Nat.two_pow_pos fw)

/-! ### The sum of two finite values -/

theorem floatIsInf_floatWithSign_top (ew fw : Nat) (neg : Bool) :
    floatIsInf ew fw (floatWithSign ew fw neg (floatTop ew * 2 ^ fw)) = true := by
  have htop : floatTop ew < 2 ^ ew := Nat.sub_lt (Nat.two_pow_pos ew) Nat.one_pos
  have hexp : floatExp ew fw (floatTop ew * 2 ^ fw) = floatTop ew := by
    rw [floatExp, Nat.mul_div_cancel _ (Nat.two_pow_pos fw), Nat.mod_eq_of_lt htop]
  have hfrac : floatFrac fw (floatTop ew * 2 ^ fw) = 0 := Nat.mul_mod_left ..
  simp [floatIsInf, hexp, hfrac]

/-- The nearest magnitude with the sign of the sum is the nearest value: a value of the other sign is farther than zero. -/
theorem nearestEven_floatWithSign {ew fw : Nat} (hfw : 0 < fw) {sum : Int} (hsum : sum ≠ 0) {P : Nat}
    (hsmall : sum.natAbs < floatOverflowAt ew fw) (hP : P < floatTop ew * 2 ^ fw)
    (hnear : NearestMag ew fw sum.natAbs P) :
    NearestEven ew fw sum (floatWithSign ew fw (decide (sum < 0)) P) := by
  rw [NearestEven, if_neg (Nat.not_le.2 hsmall)]
  refine ⟨floatFinite_floatWithSign _ hP, fun z _ => ?_⟩
  have hz := natAbs_floatVal ew fw z
  have hmag := hnear z
  rw [floatVal_floatWithSign _ (lt_of_lt_floatTop_mul hP), floatWithSign_mod_two hfw]
  simp only [decide_eq_true_eq]
  split <;> omega

/-- An exact sum of zero is a zero of either sign. -/
theorem nearestEven_zero {ew : Nat} (hew : 0 < ew) (fw : Nat) (neg : Bool) :
    NearestEven ew fw 0 (floatWithSign ew fw neg 0) := by
  have hzero : 0 < floatTop ew * 2 ^ fw :=
    Nat.mul_pos (Nat.sub_pos_of_lt (Nat.one_lt_two_pow (Nat.ne_of_gt hew))) (Nat.two_pow_pos fw)
  have hval : floatVal ew fw (floatWithSign ew fw neg 0) = 0 := by
    rw [floatVal_floatWithSign neg (lt_of_lt_floatTop_mul hzero), floatMag_subnormal ew (Nat.two_pow_pos fw)]
    split <;> rfl
  have hsmall : (0 : Int).natAbs < floatOverflowAt ew fw := (Nat.two_pow_pos (fw + 1)).trans_le (le_floatOverflowAt ew fw)
  rw [NearestEven, if_neg (Nat.not_le.2 hsmall), hval]
  exact ⟨floatFinite_floatWithSign neg hzero, fun z _ => by omega⟩

/-- The sum of two finite values is their exact sum, rounded once (spec 41_predictor R172, R173). -/
theorem nearestEven_floatAddFinite {ew fw : Nat} (hew : 2 ≤ ew) (hfw : 0 < fw) (x y : Nat) :
    NearestEven ew fw (floatVal ew fw x + floatVal ew fw y) (floatAddFinite ew fw x y) := by
  rw [floatAddFinite]
  generalize floatVal ew fw x + floatVal ew fw y = sum
  by_cases hsum : sum = 0
  · simp only [if_pos hsum]
    exact hsum ▸ nearestEven_zero (by omega) fw _
  · simp only [if_neg hsum]
    rcases Nat.lt_or_ge sum.natAbs (floatOverflowAt ew fw) with hlt | hge
    · obtain ⟨hfinite, hnear⟩ := floatPackMag_nearest hew hfw hlt
      exact nearestEven_floatWithSign hfw hsum hlt hfinite hnear
    · rw [NearestEven, if_pos hge]
      refine ⟨?_, floatSign_floatWithSign _ (floatPackMag_lt hew hfw _)⟩
      rw [floatPackMag_overflow hew hge]
      exact floatIsInf_floatWithSign_top ew fw _

theorem floatAddFinite_lt {ew fw : Nat} (hew : 2 ≤ ew) (hfw : 0 < fw) (x y : Nat) :
    floatAddFinite ew fw x y < 2 ^ (ew + fw + 1) := by
  simp only [floatAddFinite]
  split
  · exact floatWithSign_lt _ (Nat.two_pow_pos _)
  · exact floatWithSign_lt _ (floatPackMag_lt hew hfw _)

/-! ### The sum of any two values -/

theorem floatAdd_finite {ew fw x y : Nat} (hx : FloatFinite ew fw x) (hy : FloatFinite ew fw y) :
    floatAdd ew fw x y = some (floatAddFinite ew fw x y) := by
  obtain ⟨-, hx⟩ := hx
  obtain ⟨-, hy⟩ := hy
  simp [floatAdd, floatIsNaN, floatIsInf, hx, hy]

theorem not_isNaN_of_isInf {ew fw x : Nat} (h : floatIsInf ew fw x = true) : floatIsNaN ew fw x = false := by
  simp only [floatIsInf, Bool.and_eq_true, decide_eq_true_eq] at h
  simp [floatIsNaN, h]

theorem floatAdd_nan {ew fw x y : Nat} (h : floatIsNaN ew fw x = true ∨ floatIsNaN ew fw y = true) :
    floatAdd ew fw x y = none := by
  rw [floatAdd, if_pos (by simpa using h)]

theorem floatAdd_opposite_infinities {ew fw x y : Nat} (hx : floatIsInf ew fw x = true) (hy : floatIsInf ew fw y = true)
    (hsign : floatSign ew fw x ≠ floatSign ew fw y) : floatAdd ew fw x y = none := by
  simp [floatAdd, not_isNaN_of_isInf hx, not_isNaN_of_isInf hy, hx, hy, hsign]

theorem floatAdd_infinity_left {ew fw x y : Nat} (hx : floatIsInf ew fw x = true) (hy : floatIsNaN ew fw y = false)
    (hsign : floatIsInf ew fw y = true → floatSign ew fw x = floatSign ew fw y) : floatAdd ew fw x y = some x := by
  have hsame : (floatIsInf ew fw y && floatSign ew fw x != floatSign ew fw y) = false := by simpa using hsign
  simp [floatAdd, not_isNaN_of_isInf hx, hx, hy, hsame]

/-- Infinities of the same sign are the same packed value. -/
theorem isInf_ext {ew fw x y : Nat} (hx : floatIsInf ew fw x = true) (hy : floatIsInf ew fw y = true)
    (hxlt : x < 2 ^ (ew + fw + 1)) (hylt : y < 2 ^ (ew + fw + 1)) (hsign : floatSign ew fw x = floatSign ew fw y) :
    x = y := by
  simp only [floatIsInf, Bool.and_eq_true, decide_eq_true_eq] at hx hy
  obtain ⟨hxexp, hxfrac⟩ := hx
  obtain ⟨hyexp, hyfrac⟩ := hy
  rw [eq_floatWithSign hxlt, eq_floatWithSign hylt, hsign, hxexp, hyexp, hxfrac, hyfrac]

theorem floatAdd_infinity_right {ew fw x y : Nat} (hx : floatIsInf ew fw x = true) (hy : floatIsNaN ew fw y = false)
    (hxlt : x < 2 ^ (ew + fw + 1)) (hylt : y < 2 ^ (ew + fw + 1))
    (hsign : floatIsInf ew fw y = true → floatSign ew fw x = floatSign ew fw y) : floatAdd ew fw y x = some x := by
  cases hyinf : floatIsInf ew fw y with
  | true =>
    rw [isInf_ext hx hyinf hxlt hylt (hsign hyinf)]
    exact floatAdd_infinity_left hyinf hy fun _ => rfl
  | false => simp [floatAdd, hy, not_isNaN_of_isInf hx, hyinf, hx]

/-- All exponent bits and the highest fraction bit set make a quiet NaN, whatever the other bits are (log entry 7). -/
theorem floatIsNaN_of_testBit {ew fw x : Nat} (hfw : 0 < fw) (hexp : ∀ i < ew, x.testBit (fw + i) = true)
    (hquiet : x.testBit (fw - 1) = true) : floatIsNaN ew fw x = true := by
  have htop : floatExp ew fw x = floatTop ew := by
    refine Nat.eq_of_testBit_eq fun i => ?_
    rw [floatExp, floatTop, Nat.testBit_mod_two_pow, Nat.testBit_div_two_pow, Nat.testBit_two_pow_sub_one]
    by_cases hi : i < ew
    · rw [Nat.add_comm, hexp i hi, Bool.and_true]
    · simp [hi]
  have hfrac : floatFrac fw x ≠ 0 := by
    intro hzero
    have hbit := congrArg (Nat.testBit · (fw - 1)) hzero
    simp [floatFrac, Nat.testBit_mod_two_pow, hquiet] at hbit
    omega
  simp [floatIsNaN, htop, hfrac]

theorem floatIsNaN_or {ew fw w : Nat} (hfw : 0 < fw) (b : BitVec w) {c : BitVec w}
    (hc : ∀ i < ew + fw, fw - 1 ≤ i → c.getLsbD i = true) :
    floatIsNaN ew fw (b ||| c).toNat = true ∧ (b ||| c).getLsbD (fw - 1) = true := by
  have hor : ∀ i < ew + fw, fw - 1 ≤ i → (b ||| c).getLsbD i = true := fun i hi hle => by
    rw [BitVec.getLsbD_or, hc i hi hle, Bool.or_true]
  have hquiet := hor (fw - 1) (by omega) (Nat.le_refl _)
  exact ⟨floatIsNaN_of_testBit hfw (fun i hi => hor (fw + i) (by omega) (by omega)) hquiet, hquiet⟩

/-! ### The two default additions -/

/-- An addition of a format: `floatAdd`, and some quiet NaN where that has no value. -/
structure IeeeAdder (ew fw : Nat) (add : BitVec (ew + fw + 1) → BitVec (ew + fw + 1) → BitVec (ew + fw + 1)) : Prop where
  exponentBits : 2 ≤ ew
  fractionBits : 0 < fw
  sum : ∀ {x y r}, floatAdd ew fw x.toNat y.toNat = some r → add x y = BitVec.ofNat (ew + fw + 1) r
  nan : ∀ {x y}, floatAdd ew fw x.toNat y.toNat = none →
    floatIsNaN ew fw (add x y).toNat = true ∧ (add x y).getLsbD (fw - 1) = true

theorem ieeeAdder_fadd32 : IeeeAdder 8 23 (fadd32 .ieee) where
  exponentBits := by decide
  fractionBits := by decide
  sum h := by simp only [fadd32, ieeeAdd32, h]
  nan {x y} h := by
    simp only [fadd32, ieeeAdd32, h]
    exact floatIsNaN_or (ew := 8) (by decide) (Config.nanBits32 x y) (by decide)

theorem ieeeAdder_fadd64 : IeeeAdder 11 52 (fadd64 .ieee) where
  exponentBits := by decide
  fractionBits := by decide
  sum h := by simp only [fadd64, ieeeAdd64, h]
  nan {x y} h := by
    simp only [fadd64, ieeeAdd64, h]
    exact floatIsNaN_or (ew := 11) (by decide) (Config.nanBits64 x y) (by decide)

section Adder

variable {ew fw : Nat} {add : BitVec (ew + fw + 1) → BitVec (ew + fw + 1) → BitVec (ew + fw + 1)}
  (h : IeeeAdder ew fw add)

include h

theorem IeeeAdder.nearestEven (x y : BitVec (ew + fw + 1)) (hx : FloatFinite ew fw x.toNat) (hy : FloatFinite ew fw y.toNat) :
    NearestEven ew fw (floatVal ew fw x.toNat + floatVal ew fw y.toNat) (add x y).toNat := by
  rw [h.sum (floatAdd_finite hx hy), BitVec.toNat_ofNat,
    Nat.mod_eq_of_lt (floatAddFinite_lt h.exponentBits h.fractionBits _ _)]
  exact nearestEven_floatAddFinite h.exponentBits h.fractionBits _ _

theorem IeeeAdder.quietNaN {x y : BitVec (ew + fw + 1)}
    (hnan : floatIsNaN ew fw x.toNat = true ∨ floatIsNaN ew fw y.toNat = true ∨
      (floatIsInf ew fw x.toNat = true ∧ floatIsInf ew fw y.toNat = true ∧
        x.getLsbD (ew + fw) ≠ y.getLsbD (ew + fw))) :
    floatIsNaN ew fw (add x y).toNat = true ∧ (add x y).getLsbD (fw - 1) = true := by
  apply h.nan
  rcases hnan with hx | hy | ⟨hx, hy, hsign⟩
  · exact floatAdd_nan (.inl hx)
  · exact floatAdd_nan (.inr hy)
  · exact floatAdd_opposite_infinities hx hy hsign

theorem IeeeAdder.infinity {x y : BitVec (ew + fw + 1)} (hx : floatIsInf ew fw x.toNat = true)
    (hy : floatIsNaN ew fw y.toNat = false)
    (hsign : floatIsInf ew fw y.toNat = true → x.getLsbD (ew + fw) = y.getLsbD (ew + fw)) :
    add x y = x ∧ add y x = x := by
  rw [h.sum (floatAdd_infinity_left hx hy hsign), h.sum (floatAdd_infinity_right hx hy x.isLt y.isLt hsign)]
  simp

end Adder

/-- Settles O26: both default additions round as every format does. (`@` keeps the elaborator from evaluating `2 ^ 2044`.) -/
theorem defaultFloatAdditionIsCorrectlyRounded : Obligations.DefaultFloatAdditionIsCorrectlyRounded :=
  ⟨@IeeeAdder.nearestEven _ _ _ ieeeAdder_fadd32, @IeeeAdder.nearestEven _ _ _ ieeeAdder_fadd64⟩

/-- Settles O27: both default additions treat NaNs and infinities as every format does. -/
theorem defaultFloatAdditionOfSpecialValues : Obligations.DefaultFloatAdditionOfSpecialValues :=
  ⟨fun _ _ => ⟨ieeeAdder_fadd32.quietNaN, ieeeAdder_fadd32.infinity⟩,
    fun _ _ => ⟨ieeeAdder_fadd64.quietNaN, ieeeAdder_fadd64.infinity⟩⟩

end Sys2Proof.Machine

/-! SUPPORT. Proofs of the statements about the code tries (spec 42_huffman R190 to R196): a walk through a ROM follows the
paths of the trie of its table, the ROM is that trie flattened, a collision leaves no trie, and the order of the entries does
not matter. -/

namespace Sys2Proof.Machine
open Sys2Proof

/-! ### Bit strings that leave a table -/

theorem codeTable_ne_nil {tables : CodeTables} (hw : tablesWellFormed tables = true) (c : Color) :
    codeTable tables c ≠ [] := by
  obtain ⟨r, hr⟩ := codeRow?_of_isRun hw c (v := 0) (.inl (by decide))
  exact List.ne_nil_of_mem (List.mem_of_find?_eq_some hr)

/-- A bit string that begins another properly begins it without its last bit too. -/
theorem isPrefix_dropLast {p q : List Bool} (h : p <+: q) (hne : p ≠ q) : p <+: q.dropLast := by
  have hlen : p.length < q.length := Nat.lt_of_le_of_ne h.length_le fun he => hne (h.eq_of_length he)
  exact List.prefix_of_prefix_length_le h (List.dropLast_prefix q) (by rw [List.length_dropLast]; omega)

/-- The node before the end of a path is an internal node. -/
theorem node_of_dropLast {t u : Trie} {q : List Bool} (hne : q ≠ []) (h : t.subtree? q = some u) :
    ∃ c0 c1, t.subtree? q.dropLast = some (.node c0 c1) := by
  rw [← List.dropLast_append_getLast hne, subtree?_append] at h
  obtain ⟨parent, hparent, hchild⟩ := Option.bind_eq_some_iff.1 h
  cases parent with
  | node c0 c1 => exact ⟨c0, c1, hparent⟩
  | _ => cases hchild

/-- The bit strings that leave a table at their last bit are the paths to the absent nodes of its trie (spec 42_huffman R192,
R204). -/
theorem deadEnd_iff_absent {rows : List CodeRow} {t : Trie} (h : buildTrie rows = some t) (hrows : rows ≠ [])
    {q : List Bool} : DeadEnd rows q ↔ t.subtree? q = some .absent := by
  constructor
  · rintro ⟨-, hoff, before, hbefore, hpre⟩
    rcases row_or_proper_prefix_or_absent h hrows q with ⟨r, hr, hrow⟩ | ⟨r, hr, hrow, -⟩ | ⟨p, hp, habsent⟩
    · exact absurd hrow (hoff r hr).1
    · exact absurd hrow (hoff r hr).2
    · by_cases hpq : p = q
      · exact hpq ▸ habsent
      · exact absurd ((isPrefix_dropLast hp hpq).trans hpre) (not_prefix_of_absent h hbefore habsent).2
  · intro habsent
    have hne : q ≠ [] := by
      rintro rfl
      obtain ⟨c0, c1, rfl⟩ := buildTrie_eq_node h
      cases habsent
    obtain ⟨c0, c1, hnode⟩ := node_of_dropLast hne habsent
    obtain ⟨r, hr, hpre, -⟩ := exists_row_of_node h hrows hnode
    exact ⟨hne, fun r hr => not_prefix_of_absent h hr habsent, r, hr, hpre⟩

/-! ### Where a walk ends -/

/-- A walk through a trie that finds no path has come to an absent node. -/
theorem absent_of_trieWalk {c0 c1 : Trie} {used u : Nat} {bits : List Bool}
    (h : (Trie.node c0 c1).walkFrom used bits = .noPath u) :
    ∃ q, (Trie.node c0 c1).subtree? q = some .absent ∧ u = used + q.length ∧ q <+: bits := by
  induction bits generalizing c0 c1 used with
  | nil => cases h
  | cons b rest ih =>
    rw [Trie.walkFrom] at h
    cases hc : (if b then c1 else c0) with
    | absent =>
      obtain rfl : used + 1 = u := by simpa [hc] using h
      exact ⟨[b], by simp [hc], rfl, by simp⟩
    | leaf w => simp [hc] at h
    | node d0 d1 =>
      simp only [hc] at h
      obtain ⟨q, hq, rfl, hpre⟩ := ih h
      exact ⟨b :: q, by simpa [hc] using hq, by rw [List.length_cons]; omega, by simpa using hpre⟩

/-- A ROM is the image of the trie of its table (spec 42_huffman R195). -/
theorem exists_trie_of_rom {tables : CodeTables} {c : Color} {t : List RomEntry} (ht : rom tables c = some t) :
    ∃ trie, buildTrie (codeTable tables c) = some trie ∧ trie.image = some t := by
  rw [rom_eq_buildRom] at ht
  exact Option.bind_eq_some_iff.1 ht

/-- A walk through a ROM finds no path exactly at the end of a path to an absent node of the trie (spec 42_huffman R196, R204). -/
theorem walk_eq_noPath_iff {rows : List CodeRow} {trie : Trie} {t : List RomEntry} (htrie : buildTrie rows = some trie)
    (himage : trie.image = some t) {bits : List Bool} {used : Nat} :
    walk t bits = .noPath used ↔ ∃ q, trie.subtree? q = some .absent ∧ q.length = used ∧ q <+: bits := by
  obtain ⟨c0, c1, rfl⟩ := buildTrie_eq_node htrie
  rw [walk_image bits himage]
  constructor
  · intro h
    obtain ⟨q, hq, hused, hpre⟩ := absent_of_trieWalk h
    exact ⟨q, hq, by rw [hused, Nat.zero_add], hpre⟩
  · rintro ⟨q, hq, rfl, rest, rfl⟩
    rw [trieWalk_of_absent 0 rest hq, Nat.zero_add]

/-- A walk through a ROM reaches a leaf exactly where an entry begins the bits (spec 42_huffman R196, R203). -/
theorem walk_eq_leaf_iff {tables : CodeTables} {c : Color} {t : List RomEntry} (ht : rom tables c = some t)
    {bits : List Bool} {run used : Nat} :
    walk t bits = .leaf run used ↔ ∃ r ∈ codeTable tables c, r.run = run ∧ r.len = used ∧ r.pattern <+: bits := by
  refine ⟨row_of_walk_leaf ht, ?_⟩
  rintro ⟨r, hr, rfl, rfl, rest, rfl⟩
  exact walk_of_row ht hr rest

/-- In hardware that can be built, a walk finds no path exactly where the bits leave the table (spec 42_huffman R204). -/
theorem walk_eq_noPath_iff_deadEnd {tables : CodeTables} {c : Color} {t : List RomEntry}
    (hw : tablesWellFormed tables = true) (ht : rom tables c = some t) {bits : List Bool} {used : Nat} :
    walk t bits = .noPath used ↔ ∃ q, DeadEnd (codeTable tables c) q ∧ q.length = used ∧ q <+: bits := by
  obtain ⟨trie, htrie, himage⟩ := exists_trie_of_rom ht
  rw [walk_eq_noPath_iff htrie himage]
  simp only [deadEnd_iff_absent htrie (codeTable_ne_nil hw c)]

/-- Settles O6: the leaves are the entries, and the absent nodes end the bit strings that leave the table. -/
theorem walkIsPrefixMatching : Obligations.WalkIsPrefixMatching := fun _ _ _ _ hw ht =>
  ⟨fun _ _ => walk_eq_leaf_iff ht, fun _ => walk_eq_noPath_iff_deadEnd hw ht⟩

/-- Settles O7: eight zeros are the path to the one absent node of each default trie. -/
theorem onlyEightZerosHaveNoPath : Obligations.OnlyEightZerosHaveNoPath := by
  intro c t bits used ht
  obtain ⟨trie, htrie, himage⟩ := exists_trie_of_rom ht
  rw [walk_eq_noPath_iff htrie himage]
  simp [absent_standard_iff htrie, eq_comm]

/-! ### The image of a trie -/

/-- An entry that fits is the number its 16 bits stand for (spec 30_encoding R112). -/
theorem toInt_ofInt_of_fits {e : Int} (h : -2 ^ 15 ≤ e ∧ e < 2 ^ 15) : (BitVec.ofInt 16 e).toInt = e := by
  rw [BitVec.toInt_ofInt]
  exact Int.bmod_eq_of_le (by omega) (by omega)

/-- The image of a trie holds the flattened trie, number by number, and there is one exactly when every number fits (spec
00_scope R11, 42_huffman R195). -/
theorem image_eq_some_iff {trie : Trie} {t : List RomEntry} :
    trie.image = some t ↔
      (∀ e ∈ Trie.emit 0 trie, -2 ^ 15 ≤ e ∧ e < 2 ^ 15) ∧ t.map BitVec.toInt = Trie.emit 0 trie := by
  have hfits : (Trie.emit 0 trie).all fitsRomEntry = true ↔ ∀ e ∈ Trie.emit 0 trie, -2 ^ 15 ≤ e ∧ e < 2 ^ 15 := by
    simp only [List.all_eq_true, fitsRomEntry_iff]
  rw [Trie.image, Option.ite_none_right_eq_some, hfits, Option.some.injEq]
  refine and_congr_right fun hall => ⟨?_, fun hints => ?_⟩
  · rintro rfl
    rw [List.map_map]
    exact (List.map_congr_left fun e he => toInt_ofInt_of_fits (hall e he)).trans (List.map_id _)
  · rw [← hints, List.map_map]
    exact (List.map_congr_left fun w _ => BitVec.ofInt_toInt).trans (List.map_id t)

/-- Settles O8: every ROM is built from its table, and the image holds the trie flattened. -/
theorem romsAreTheFlattenedTries : Obligations.RomsAreTheFlattenedTries := by
  refine ⟨fun tables c t => ?_, rfl, rfl⟩
  rw [rom_eq_buildRom, buildRom, Option.bind_eq_some_iff]
  simp only [image_eq_some_iff]

/-! ### The order of the entries -/

theorem insert_ne_absent {t u : Trie} {p : List Bool} {v : Nat} (h : t.insert p v = some u) : u ≠ .absent := by
  rintro rfl
  cases t with
  | absent => rcases p with _ | ⟨_ | _, bs⟩ <;> simp [Trie.insert] at h
  | leaf v' => cases p <;> cases h
  | node c0 c1 =>
    obtain ⟨d0, d1, hnode⟩ := insert_node_eq_node h
    cases hnode

/-- Where an entry ends, no other ends or goes on, whichever comes first (spec 42_huffman R194). -/
theorem insert_nil_comm (t : Trie) (p : List Bool) (v w : Nat) :
    ((t.insert [] v).bind fun u => u.insert p w) = (t.insert p w).bind fun u => u.insert [] v := by
  have hleft : ((t.insert [] v).bind fun u => u.insert p w) = none := by
    cases t with
    | absent => cases p <;> rfl
    | _ => rfl
  have hright : ((t.insert p w).bind fun u => u.insert [] v) = none := by
    refine Option.bind_eq_none_iff.2 fun u hu => ?_
    cases u with
    | absent => exact absurd rfl (insert_ne_absent hu)
    | _ => rfl
  rw [hleft, hright]

/-- At an internal node two rows go on to the same child, or to different ones. -/
theorem insert_node_comm (c0 c1 : Trie) (b b' : Bool) {bs bs' : List Bool} {v w : Nat}
    (hchild : ∀ t : Trie, ((t.insert bs v).bind fun u => u.insert bs' w) = (t.insert bs' w).bind fun u => u.insert bs v) :
    (((Trie.node c0 c1).insert (b :: bs) v).bind fun u => u.insert (b' :: bs') w) =
      ((Trie.node c0 c1).insert (b' :: bs') w).bind fun u => u.insert (b :: bs) v := by
  by_cases hb : b' = b
  · subst hb
    cases b'
    · simpa only [Trie.insert, Option.bind_map, Option.map_bind, Function.comp_def] using
        congrArg (Option.map fun d => Trie.node d c1) (hchild c0)
    · simpa only [Trie.insert, Option.bind_map, Option.map_bind, Function.comp_def] using
        congrArg (Option.map fun d => Trie.node c0 d) (hchild c1)
  · obtain rfl : b' = !b := Bool.eq_not.2 hb
    cases b
    · cases h0 : c0.insert bs v <;> cases h1 : c1.insert bs' w <;> simp [Trie.insert, h0, h1]
    · cases h0 : c0.insert bs' w <;> cases h1 : c1.insert bs v <;> simp [Trie.insert, h0, h1]

/-- Two rows leave the same trie, or collide, in either order. -/
theorem insert_comm (t : Trie) (p q : List Bool) (v w : Nat) :
    ((t.insert p v).bind fun u => u.insert q w) = (t.insert q w).bind fun u => u.insert p v := by
  induction p generalizing t q with
  | nil => exact insert_nil_comm t q v w
  | cons b bs ih =>
    cases q with
    | nil => exact (insert_nil_comm t (b :: bs) w v).symm
    | cons b' bs' =>
      cases t with
      | absent => simpa only [insert_absent_cons] using insert_node_comm .absent .absent b b' fun t => ih t bs'
      | leaf u => cases b <;> cases b' <;> rfl
      | node c0 c1 => exact insert_node_comm c0 c1 b b' fun t => ih t bs'

theorem insertAll_perm {rows rows' : List CodeRow} (h : rows.Perm rows') (t : Trie) :
    t.insertAll rows = t.insertAll rows' := by
  induction h generalizing t with
  | nil => rfl
  | cons r _ ih => simp only [Trie.insertAll, ih]
  | swap r q rows => simp only [Trie.insertAll, ← Option.bind_assoc, insert_comm t q.pattern r.pattern]
  | trans _ _ ih ih' => exact (ih t).trans (ih' t)

/-- Settles O58: two rows can change places, so all can. -/
theorem tableOrderDoesNotChangeTheRom : Obligations.TableOrderDoesNotChangeTheRom := by
  intro rows rows' h
  have htrie : buildTrie rows = buildTrie rows' := insertAll_perm h _
  exact ⟨htrie, by rw [buildRom, buildRom, htrie]⟩

/-! ### Collisions -/

/-- Nothing is entered at the end of another entry (spec 42_huffman R194). -/
theorem insert_eq_none_of_leaf {t : Trie} {p : List Bool} {v : Nat} (w : Nat) (h : t.subtree? p = some (.leaf v)) :
    t.insert p w = none := by
  induction p generalizing t with
  | nil =>
    cases t with
    | absent => cases h
    | _ => rfl
  | cons b bs ih =>
    cases t with
    | absent => cases h
    | leaf u => rfl
    | node c0 c1 =>
      rw [subtree?_node_cons] at h
      cases b <;> exact Option.map_eq_none_iff.2 (ih h)

/-- Entries of a trie end in different places. -/
theorem pattern_ne_of_leaf {rows : List CodeRow} {t t' : Trie} {p : List Bool} {v : Nat}
    (hp : t.subtree? p = some (.leaf v)) (h : t.insertAll rows = some t') : ∀ r ∈ rows, r.pattern ≠ p := by
  induction rows generalizing t with
  | nil => simp
  | cons r rs ih =>
    obtain ⟨u, hu, hrs⟩ := Option.bind_eq_some_iff.1 h
    have hkept : u.subtree? p = some (.leaf v) :=
      leafAt_eq_some_iff.1 ((leafAt_insert hu p v).2 (.inl (leafAt_eq_some_iff.2 hp)))
    refine List.forall_mem_cons.2 ⟨?_, ih hkept hrs⟩
    rintro rfl
    simp [insert_eq_none_of_leaf r.run hp] at hu

/-- In a table that has a trie no entry begins another or equals it (spec 31_code_tables R122): all are paths to leaves of the
trie, and to different ones. -/
theorem pairwise_of_insertAll {rows : List CodeRow} {t t' : Trie} (h : t.insertAll rows = some t') :
    rows.Pairwise fun r q => ¬ r.pattern <+: q.pattern ∧ ¬ q.pattern <+: r.pattern := by
  induction rows generalizing t with
  | nil => exact .nil
  | cons r rs ih =>
    obtain ⟨u, hu, hrs⟩ := Option.bind_eq_some_iff.1 h
    refine List.pairwise_cons.2 ⟨fun q hq => ?_, ih hrs⟩
    have hleaf : ∀ x ∈ r :: rs, t'.subtree? x.pattern = some (.leaf x.run) := fun x hx =>
      leafAt_eq_some_iff.1 ((leafAt_insertAll h x.pattern x.run).2 (.inr ⟨x, hx, rfl, rfl⟩))
    have hleafR := hleaf r List.mem_cons_self
    have hleafQ := hleaf q (List.mem_cons_of_mem r hq)
    have hentered : u.subtree? r.pattern = some (.leaf r.run) :=
      leafAt_eq_some_iff.1 ((leafAt_insert hu r.pattern r.run).2 (.inr ⟨rfl, rfl⟩))
    have hne := pattern_ne_of_leaf hentered hrs q hq
    exact ⟨fun hpre => hne (eq_of_prefix_of_no_child hleafR nofun hleafQ hpre).symm,
      fun hpre => hne (eq_of_prefix_of_no_child hleafQ nofun hleafR hpre)⟩

/-- Settles O57: a table with a trie has no collision; without a ROM the `HNEXT` that comes to read it is refused. -/
theorem collidingTablesAreRefused : Obligations.CollidingTablesAreRefused := by
  intro s sel hcollide
  have htrie : buildTrie (codeTable s.cfg.tables (selColor s.hu.color sel)) = none :=
    Option.eq_none_iff_forall_ne_some.2 fun t ht => hcollide (pairwise_of_insertAll ht)
  have hrom : rom s.cfg.tables (selColor s.hu.color sel) = none := by
    rw [rom_eq_buildRom, buildRom, htrie, Option.bind_none]
  refine ⟨htrie, hrom, fun hv hf hregion => ?_⟩
  have hinside : regionInside s = true := decide_eq_true hregion
  simpa [hv, hf, hinside, hrom] using exec_hnext_cases sel s

end Sys2Proof.Machine

/-! SUPPORT. Proofs of the statements about the commands of the Huffman unit (spec 42_huffman R198 to R215): the checks before any
bit, the run an `HNEXT` reads word by word, its faults, consecutive runs, and the steps from word to word. -/

namespace Sys2Proof.Machine
open Sys2Proof

/-! ### The checks before any bit -/

/-- Settles O36: the two ends of an `HREGION`. -/
theorem hregionSetsTheRegion : Obligations.HregionSetsTheRegion := by
  intro s offset count
  rcases exec_hregion_cases offset count s with ⟨hout, h⟩ | ⟨hin, h⟩
  · exact ⟨fun hin => absurd hin (Nat.not_le.2 hout), fun _ => h⟩
  · exact ⟨fun _ => h, fun hout => absurd hin (Nat.not_le.2 hout)⟩

theorem exec_hline_starts {s : State} (hv : s.hu.hvalid = true) (hf : s.hu.hfault = false) :
    exec .hline s = .next (respond .ok 0 0 { s with hu := { s.hu with color := .white, acc := 0 } }) := by
  simpa [hv, hf] using exec_hline_cases s

theorem exec_hline_notReady {s : State} (hv : s.hu.hvalid = false) :
    exec .hline s = .next (respond .notReady 0 0 s) := by
  simpa [hv] using exec_hline_cases s

theorem exec_hline_latched {s : State} (hv : s.hu.hvalid = true) (hf : s.hu.hfault = true) :
    exec .hline s = .next (respond s.hu.hcause 0 s.hu.acc s) := by
  simpa [hv, hf] using exec_hline_cases s

/-- Settles O37: the three ends of an `HLINE`. -/
theorem hlineStartsACodedLine : Obligations.HlineStartsACodedLine := fun _ =>
  ⟨exec_hline_starts, exec_hline_notReady, exec_hline_latched⟩

theorem exec_hnext_notReady (sel : Sel) {s : State} (hv : s.hu.hvalid = false) :
    exec (.hnext sel) s = .next (respond .notReady 0 0 s) := by
  simpa [hv] using exec_hnext_cases sel s

theorem exec_hnext_latched (sel : Sel) {s : State} (hv : s.hu.hvalid = true) (hf : s.hu.hfault = true) :
    exec (.hnext sel) s = .next (respond s.hu.hcause 0 s.hu.acc s) := by
  simpa [hv, hf] using exec_hnext_cases sel s

/-- An `HNEXT` reads of its selector only the colour it names (spec 42_huffman R201). -/
theorem exec_hnext_congr {sel sel' : Sel} {s : State} (h : selColor s.hu.color sel = selColor s.hu.color sel') :
    exec (.hnext sel) s = exec (.hnext sel') s := by
  simp only [exec, execHnext, h]

/-- Settles O39: both checks come first, and `CUR` names the table of the colour register. -/
theorem hnextChecksBeforeAnyBit : Obligations.HnextChecksBeforeAnyBit := fun _ sel =>
  ⟨exec_hnext_notReady sel, exec_hnext_latched sel, fun hc => exec_hnext_congr hc, fun hc => exec_hnext_congr hc⟩

/-! ### Sequences of commands -/

theorem execAll_cons {i : Instr} {s t : State} (is : List Instr) (h : exec i s = .next t) :
    execAll (i :: is) s = (execAll is t).map fun x => (t.rsp :: x.1, x.2) := by
  simp only [execAll, h]

/-- `HLINE` and `HNEXT` repeat a latched fault (spec 42_huffman R209). -/
theorem exec_latched {i : Instr} {s : State} (hi : i = .hline ∨ ∃ sel, i = .hnext sel) (hv : s.hu.hvalid = true)
    (hf : s.hu.hfault = true) : exec i s = .next (respond s.hu.hcause 0 s.hu.acc s) := by
  rcases hi with rfl | ⟨sel, rfl⟩
  · exact exec_hline_latched hv hf
  · exact exec_hnext_latched sel hv hf

/-- Settles O46, by induction on the commands: the response of the last hides that of the one before, and nothing else moves. -/
theorem latchedFaultRepeatsUntilHregion : Obligations.LatchedFaultRepeatsUntilHregion := by
  intro s cmds hv hf hne hall
  induction cmds generalizing s with
  | nil => exact absurd rfl hne
  | cons i is ih =>
    obtain ⟨hi, his⟩ := List.forall_mem_cons.1 hall
    rw [execAll_cons is (exec_latched hi hv hf)]
    cases is with
    | nil => rfl
    | cons j js =>
      rw [ih (respond s.hu.hcause 0 s.hu.acc s) hv hf (List.cons_ne_nil j js) his]
      rfl

/-! ### One word of a run -/

/-- The end of a run that began `n` bits earlier. -/
def RunEnd.after (n : Nat) : RunEnd → RunEnd
  | .done run used => .done run (n + used)
  | .failed st acc used => .failed st acc (n + used)

theorem RunEnd.after_after (m n : Nat) (e : RunEnd) : (e.after m).after n = e.after (n + m) := by
  cases e <;> simp [RunEnd.after, Nat.add_assoc]

/-- The bits read before a run only add to those it reads. -/
theorem decodeRun_after (t : List RomEntry) (node acc n used : Nat) (bits : List Bool) :
    decodeRun t node acc (n + used) bits = (decodeRun t node acc used bits).after n := by
  induction bits generalizing node acc used with
  | nil => rfl
  | cons b rest ih =>
    rw [decodeRun, decodeRun, Nat.add_assoc]
    cases lookupStep t node b with
    | absent => rfl
    | node j => exact ih j acc (used + 1)
    | leaf v =>
      dsimp only
      split
      · rfl
      · split
        · rfl
        · exact ih 0 (acc + v) (used + 1)

section OneWord
variable {t : List RomEntry} {bits : List Bool} {v u acc : Nat}

theorem decodeRun_noPath (h : walk t bits = .noPath u) : decodeRun t 0 acc 0 bits = .failed .corrupt acc u := by
  rw [decodeRun_eq_walk, h]

theorem decodeRun_endOfInput (h : walk t bits = .endOfInput u) :
    decodeRun t 0 acc 0 bits = .failed .endOfInput acc u := by
  rw [decodeRun_eq_walk, h]

/-- Spec 42_huffman R207. -/
theorem decodeRun_overflow (h : walk t bits = .leaf v u) (hacc : accMax < acc + v) :
    decodeRun t 0 acc 0 bits = .failed .overflow acc u := by
  rw [decodeRun_eq_walk, h]
  exact if_pos hacc

/-- Spec 42_huffman R205. -/
theorem decodeRun_terminating (h : walk t bits = .leaf v u) (hacc : acc + v ≤ accMax) (hv : v < 64) :
    decodeRun t 0 acc 0 bits = .done (acc + v) u := by
  rw [decodeRun_eq_walk, h]
  exact (if_neg (Nat.not_lt.2 hacc)).trans (if_pos hv)

/-- Spec 42_huffman R206. -/
theorem decodeRun_makeup (h : walk t bits = .leaf v u) (hacc : acc + v ≤ accMax) (hv : 64 ≤ v) :
    decodeRun t 0 acc 0 bits = (decodeRun t 0 (acc + v) 0 (bits.drop u)).after u := by
  rw [decodeRun_eq_walk, h, ← decodeRun_after]
  exact (if_neg (Nat.not_lt.2 hacc)).trans (if_neg (Nat.not_lt.2 hv))

end OneWord

/-! ### The words of a table -/

/-- Each run length of the tables has a code word of each colour (spec 31_code_tables R120). -/
theorem exists_codeWord_of_mem_tableRuns (c : Color) {v : Nat} (h : v ∈ tableRuns) :
    ∃ i : Instr, i.codeWord? = some (c, v) := by
  have hmem : some (c, v) ∈ (codeWords c).map Instr.codeWord? := by
    rw [codeWord?_codeWords]
    exact List.mem_map_of_mem h
  obtain ⟨i, -, hi⟩ := List.mem_map.1 hmem
  exact ⟨i, hi⟩

/-- A row of a table hardware can be built from stands for a run length of the tables (spec 31_code_tables R120). -/
theorem run_mem_tableRuns {tables : CodeTables} {c : Color} {r : CodeRow} (hw : tablesWellFormed tables = true)
    (hr : r ∈ codeTable tables c) : r.run ∈ tableRuns := by
  have h := tableWellFormed_of_tables hw c
  simp only [tableWellFormed, tableRunsComplete, Bool.and_eq_true] at h
  obtain ⟨⟨-, ⟨-, hlisted⟩, -⟩, -⟩ := h
  exact List.contains_iff_mem.1 (List.all_eq_true.1 hlisted r hr)

theorem exists_row_of_isRun {tables : CodeTables} (hw : tablesWellFormed tables = true) (c : Color) {v : Nat}
    (hv : IsRun v) : ∃ r ∈ codeTable tables c, r.run = v ∧ patternOf tables c v = r.pattern := by
  obtain ⟨i, hi⟩ := exists_codeWord_of_mem_tableRuns c (mem_tableRuns hv)
  exact exists_row_of_codeWord? hw hi

/-- A walk reads the word of a run length where its pattern begins the bits. -/
theorem walk_patternOf {tables : CodeTables} {c : Color} {t : List RomEntry} {v : Nat}
    (hw : tablesWellFormed tables = true) (ht : rom tables c = some t) (hv : IsRun v) (rest : List Bool) :
    walk t (patternOf tables c v ++ rest) = .leaf v (patternOf tables c v).length := by
  obtain ⟨r, hr, rfl, hpattern⟩ := exists_row_of_isRun hw c hv
  rw [hpattern, walk_of_row ht hr, CodeRow.pattern, toBits_length]

/-- A walk that finds its bits ended has read them all. -/
theorem walkFrom_endOfInput {t : List RomEntry} {node used u : Nat} {bits : List Bool}
    (h : walkFrom t node used bits = .endOfInput u) : u = used + bits.length := by
  induction bits generalizing node used with
  | nil => cases h; rfl
  | cons b rest ih =>
    rw [walkFrom] at h
    cases hl : lookupStep t node b with
    | leaf v => simp [hl] at h
    | absent => simp [hl] at h
    | node j =>
      simp only [hl] at h
      rw [ih h, List.length_cons]
      omega

/-- Inside a word a walk finds its bits ended (spec 42_huffman R208): no other word is there, and no way off the table. -/
theorem walk_part_of_word {tables : CodeTables} {c : Color} {t : List RomEntry} {v : Nat} {part : List Bool}
    (hw : tablesWellFormed tables = true) (ht : rom tables c = some t) (hv : IsRun v)
    (hpart : part <+: patternOf tables c v) (hne : part ≠ patternOf tables c v) :
    walk t part = .endOfInput part.length := by
  obtain ⟨r, hr, rfl, hpattern⟩ := exists_row_of_isRun hw c hv
  rw [hpattern] at hpart hne
  cases hwalk : walk t part with
  | leaf v u =>
    obtain ⟨r', hr', -, -, hpre⟩ := row_of_walk_leaf ht hwalk
    obtain rfl : r' = r := row_eq_of_pattern_prefix hw hr' hr (hpre.trans hpart)
    exact absurd (hpart.eq_of_length_le hpre.length_le) hne
  | noPath u =>
    obtain ⟨q, ⟨-, hoff, -⟩, -, hpre⟩ := (walk_eq_noPath_iff_deadEnd hw ht).1 hwalk
    exact absurd (hpre.trans hpart) (hoff r hr).2
  | endOfInput u => rw [walkFrom_endOfInput hwalk, Nat.zero_add]

/-! ### Makeup words -/

theorem wordsBits_cons (tables : CodeTables) (c : Color) (v : Nat) (vs : List Nat) :
    wordsBits tables c (v :: vs) = patternOf tables c v ++ wordsBits tables c vs := List.flatMap_cons

theorem codedRun_bits (tables : CodeTables) (c : Color) (run : CodedRun) :
    run.bits tables c = wordsBits tables c run.makeups ++ patternOf tables c run.last := by
  simp [CodedRun.bits, wordsBits]

/-- Makeup words are read one after the other and added up (spec 42_huffman R206). -/
theorem decodeRun_wordsBits {tables : CodeTables} {c : Color} {t : List RomEntry} {makeups : List Nat} {acc : Nat}
    (hw : tablesWellFormed tables = true) (ht : rom tables c = some t) (hm : ∀ m ∈ makeups, IsMakeup m)
    (hacc : acc + makeups.sum ≤ accMax) (rest : List Bool) :
    decodeRun t 0 acc 0 (wordsBits tables c makeups ++ rest) =
      (decodeRun t 0 (acc + makeups.sum) 0 rest).after (wordsBits tables c makeups).length := by
  induction makeups generalizing acc with
  | nil => exact decodeRun_after t 0 acc 0 0 rest
  | cons m ms ih =>
    obtain ⟨hmakeup, hms⟩ := List.forall_mem_cons.1 hm
    rw [List.sum_cons, ← Nat.add_assoc] at hacc
    have hwalk := walk_patternOf hw ht (.inr hmakeup) (wordsBits tables c ms ++ rest)
    rw [wordsBits_cons, List.append_assoc, decodeRun_makeup hwalk (by omega) hmakeup.1, List.drop_left, ih hms hacc,
      RunEnd.after_after, List.length_append, List.sum_cons, Nat.add_assoc]

/-! ### One `HNEXT` -/

/-- The state in which an `HNEXT` leaves the machine, by how its run ends (spec 42_huffman R205, R210). -/
def hnextEnd (s : State) : RunEnd → State
  | .done run used => huFinish run (advanceBits used s)
  | .failed st acc used => huFail st acc (advanceBits used s)

/-- An `HNEXT` that nothing turns away ends as its run does. -/
theorem exec_hnext_of_rom {sel : Sel} {s : State} {t : List RomEntry} (hv : s.hu.hvalid = true)
    (hf : s.hu.hfault = false) (hregion : s.hu.rstart.toNat + s.hu.rcount.toNat ≤ s.cfg.inSize.toNat)
    (ht : rom s.cfg.tables (selColor s.hu.color sel) = some t) :
    exec (.hnext sel) s = .next (hnextEnd s (decodeRun t 0 0 0 (unreadBits s))) := by
  have hinside : regionInside s = true := decide_eq_true hregion
  rcases exec_hnext_cases sel s with ⟨hv', -⟩ | ⟨-, hf', -⟩ | ⟨-, -, hout, -⟩ | ⟨-, -, -, hnone, -⟩ |
    ⟨-, -, -, t', ht', hrun⟩
  · cases hv.symm.trans hv'
  · cases hf.symm.trans hf'
  · cases hinside.symm.trans hout
  · cases ht.symm.trans hnone
  · cases ht.symm.trans ht'
    rcases hrun with ⟨run, used, hd, h⟩ | ⟨st, acc, used, hd, h⟩ <;> rw [h, hd] <;> rfl

/-- After makeup words an `HNEXT` ends as the rest of its run does, with their sum as `acc`. -/
theorem exec_hnext_after_makeups {sel : Sel} {s : State} {t : List RomEntry} {makeups : List Nat} {rest : List Bool}
    (hw : tablesWellFormed s.cfg.tables = true) (hv : s.hu.hvalid = true) (hf : s.hu.hfault = false)
    (hregion : s.hu.rstart.toNat + s.hu.rcount.toNat ≤ s.cfg.inSize.toNat)
    (ht : rom s.cfg.tables (selColor s.hu.color sel) = some t) (hm : ∀ m ∈ makeups, IsMakeup m)
    (hsum : makeups.sum ≤ accMax)
    (hbits : unreadBits s = wordsBits s.cfg.tables (selColor s.hu.color sel) makeups ++ rest) :
    exec (.hnext sel) s = .next (hnextEnd s ((decodeRun t 0 makeups.sum 0 rest).after
      (wordsBits s.cfg.tables (selColor s.hu.color sel) makeups).length)) := by
  rw [exec_hnext_of_rom hv hf hregion ht, hbits, decodeRun_wordsBits hw ht hm (by omega), Nat.zero_add]

theorem tablesWellFormed_of_cfg {p : Params} (h : p.wellFormed = true) : tablesWellFormed p.tables = true := by
  simp only [Params.wellFormed, Bool.and_eq_true] at h
  exact h.2

/-- Settles O40: after the makeup words the terminating word ends the run. -/
theorem hnextReturnsTheCodedRun : Obligations.HnextReturnsTheCodedRun := by
  rintro s sel run rest hcfg hv hf hregion ⟨hm, hlast, hsum⟩ hbits
  have hw := tablesWellFormed_of_cfg hcfg
  obtain ⟨t, ht⟩ := Option.ne_none_iff_exists'.1 (rom_ne_none hw (selColor s.hu.color sel))
  rw [codedRun_bits, List.append_assoc] at hbits
  have hwalk := walk_patternOf hw ht (.inl hlast) rest
  rw [exec_hnext_after_makeups hw hv hf hregion ht hm (by omega) hbits, decodeRun_terminating hwalk hsum hlast,
    codedRun_bits, List.length_append]
  rfl

/-- Where the bits leave the table after makeup words, an `HNEXT` faults (spec 42_huffman R204, R210). -/
theorem exec_hnext_deadEnd {sel : Sel} {s : State} {makeups : List Nat} {q rest : List Bool}
    (hw : tablesWellFormed s.cfg.tables = true) (hv : s.hu.hvalid = true) (hf : s.hu.hfault = false)
    (hregion : s.hu.rstart.toNat + s.hu.rcount.toNat ≤ s.cfg.inSize.toNat) (hm : ∀ m ∈ makeups, IsMakeup m)
    (hsum : makeups.sum ≤ accMax) (hq : DeadEnd (codeTable s.cfg.tables (selColor s.hu.color sel)) q)
    (hbits : unreadBits s = wordsBits s.cfg.tables (selColor s.hu.color sel) makeups ++ q ++ rest) :
    exec (.hnext sel) s = .next (huFail .corrupt makeups.sum (advanceBits
      ((wordsBits s.cfg.tables (selColor s.hu.color sel) makeups).length + q.length) s)) := by
  obtain ⟨t, ht⟩ := Option.ne_none_iff_exists'.1 (rom_ne_none hw (selColor s.hu.color sel))
  have hwalk : walk t (q ++ rest) = .noPath q.length :=
    (walk_eq_noPath_iff_deadEnd hw ht).2 ⟨q, hq, rfl, List.prefix_append q rest⟩
  rw [List.append_assoc] at hbits
  rw [exec_hnext_after_makeups hw hv hf hregion ht hm hsum hbits, decodeRun_noPath hwalk]
  rfl

/-- Settles O59. -/
theorem hnextFaultsWhereNoWordIs : Obligations.HnextFaultsWhereNoWordIs := by
  intro s sel makeups q rest hcfg hv hf hregion hm hsum hq hbits
  rw [exec_hnext_deadEnd (tablesWellFormed_of_cfg hcfg) hv hf hregion hm hsum hq hbits, Nat.add_assoc]
  rfl

/-- Eight zeros leave each default table at the eighth (spec 31_code_tables R123). -/
theorem deadEnd_standard (c : Color) : DeadEnd (codeTable .standard c) (List.replicate 8 false) := by
  obtain ⟨trie, htrie⟩ := exists_trie standard_wellFormed c
  exact (deadEnd_iff_absent htrie (codeTable_ne_nil standard_wellFormed c)).2 ((absent_standard_iff htrie).2 rfl)

/-- Settles O41: eight zeros are where the default tables have no word. -/
theorem hnextFaultsOnEightZeros : Obligations.HnextFaultsOnEightZeros := by
  intro s sel makeups rest hstd hv hf hregion hm hsum hbits
  rw [← hstd] at hbits ⊢
  have hq : DeadEnd (codeTable s.cfg.tables (selColor s.hu.color sel)) (List.replicate 8 false) :=
    hstd ▸ deadEnd_standard _
  rw [exec_hnext_deadEnd (hstd ▸ standard_wellFormed) hv hf hregion hm hsum hq hbits, Nat.add_assoc]
  rfl

/-- Settles O42: the walk that follows the makeup words finds its bits ended. -/
theorem hnextFaultsAtTheEndOfTheRegion : Obligations.HnextFaultsAtTheEndOfTheRegion := by
  intro s sel makeups part v hcfg hv hf hregion hm hsum hrun hpart hne hbits
  have hw := tablesWellFormed_of_cfg hcfg
  obtain ⟨t, ht⟩ := Option.ne_none_iff_exists'.1 (rom_ne_none hw (selColor s.hu.color sel))
  have hwalk := walk_part_of_word hw ht hrun hpart hne
  rw [exec_hnext_after_makeups hw hv hf hregion ht hm hsum hbits, decodeRun_endOfInput hwalk, hbits, List.length_append]
  rfl

/-! ### Consecutive runs -/

/-- Settles O45, by induction on the runs: an `HNEXT` leaves the bits after its run unread and the other colour current. -/
theorem consecutiveRunsDecodeInOrder : Obligations.ConsecutiveRunsDecodeInOrder := by
  intro s sel runs rest hcfg hv hf hregion hvalid hbits
  induction runs generalizing s with
  | nil => exact ⟨s, rfl, rfl, hbits⟩
  | cons run runs ih =>
    obtain ⟨hrun, hruns⟩ := List.forall_mem_cons.1 hvalid
    rw [lineBits, List.append_assoc] at hbits
    have hexec := hnextReturnsTheCodedRun s sel run _ hcfg hv hf hregion hrun hbits
    generalize hbs : run.bits s.cfg.tables (selColor s.hu.color sel) = bs at hbits hexec
    have hunread : unreadBits (huFinish run.length (advanceBits bs.length s)) =
        lineBits s.cfg.tables sel (Color.flip s.hu.color) runs ++ rest := by
      change unreadBits (advanceBits bs.length s) = _
      rw [unreadBits_advanceBits, hbits, List.drop_left]
    obtain ⟨t, hall, hcursor, hrest⟩ := ih (huFinish run.length (advanceBits bs.length s)) hcfg hv hf hregion hruns hunread
    refine ⟨t, ?_, ?_, hrest⟩
    · rw [List.length_cons, List.replicate_succ, execAll_cons _ hexec]
      exact congrArg (Option.map _) hall
    · rw [hcursor, lineBits, hbs, List.length_append, ← Nat.add_assoc]
      rfl

/-! ### One code word -/

theorem exec_codeWord_addRun {i : Instr} {c : Color} {v : Nat} {s : State}
    (hw : tablesWellFormed s.cfg.tables = true) (hi : i.codeWord? = some (c, v)) :
    exec i s = .next (addRun v (patternOf s.cfg.tables c v).length s) := by
  obtain ⟨r, hr, rfl, hpattern⟩ := exists_row_of_codeWord? hw hi
  rw [exec_codeWord s hi, hpattern, CodeRow.pattern, toBits_length]
  simp only [runWord, codeRow?_of_mem hw hr]

/-- Settles O43: of the three ends of a word, the hypotheses leave the one. -/
theorem codeWordConsumesItsBitsAndAdds : Obligations.CodeWordConsumesItsBitsAndAdds := by
  intro i c v s hcfg hi
  rw [exec_codeWord_addRun (tablesWellFormed_of_cfg hcfg) hi]
  rcases addRun_cases v (patternOf s.cfg.tables c v).length s with ⟨hover, h⟩ | ⟨hfits, hterm, h⟩ | ⟨hfits, hmakeup, h⟩
  · refine ⟨fun hfits => absurd hfits (by omega), fun hfits => absurd hfits (by omega), fun _ => ?_⟩
    rw [h, huFail, BitVec.ofNat_toNat, BitVec.setWidth_eq]
    rfl
  · refine ⟨fun _ _ => ?_, fun _ hmakeup => absurd hmakeup (by omega), fun hover => absurd hover (by omega)⟩
    rw [h]
    rfl
  · refine ⟨fun _ hterm => absurd hterm (by omega), fun _ _ => ?_, fun hover => absurd hover (by omega)⟩
    rw [h]

/-! ### One step inside an `HNEXT` -/

/-- Settles O11: of the things a fetch inside an `HNEXT` can do, the hypotheses leave the one. -/
theorem stepRunsTheCodeWordAtTheCursor : Obligations.StepRunsTheCodeWordAtTheCursor := by
  intro s c i used hwalk hregion hd
  have hinside : regionInside s = true := decide_eq_true hregion
  refine step_of_run ((fetch_insideHnext hwalk).trans ?_)
  rcases fetchWord_cases c s with ⟨hout, -⟩ | ⟨-, hrom, -⟩ | ⟨-, t, -, ⟨j, u, hd', h⟩ | ⟨e, he, -⟩⟩
  · cases hinside.symm.trans hout
  · simp [decodeWord, hrom] at hd
  · cases hd.symm.trans hd'
    exact h
  · cases hd.symm.trans he

theorem decodeWord_error_of_no_leaf {tables : CodeTables} {c : Color} {t : List RomEntry} {bits : List Bool}
    (ht : rom tables c = some t) (h : ∀ v u, walk t bits ≠ .leaf v u) : ∃ e, decodeWord tables c bits = .error e := by
  cases hwalk : walk t bits with
  | leaf v u => exact absurd hwalk (h v u)
  | noPath u => exact ⟨.noPath, by simp only [decodeWord, ht, hwalk]⟩
  | endOfInput u => exact ⟨.endOfInput, by simp only [decodeWord, ht, hwalk]⟩

section Inside
variable {s : State} {c : Color} {t : List RomEntry}

/-- Where a walk reaches a leaf, the step is its code word. -/
theorem step_of_walk_leaf {v used : Nat} (hwalk : s.hu.walk = some c)
    (hregion : s.hu.rstart.toNat + s.hu.rcount.toNat ≤ s.cfg.inSize.toNat)
    (hw : tablesWellFormed s.cfg.tables = true) (ht : rom s.cfg.tables c = some t)
    (h : walk t (unreadBits s) = .leaf v used) : step s = .next (addRun v used s) := by
  obtain ⟨r, hr, rfl, rfl, -⟩ := row_of_walk_leaf ht h
  obtain ⟨i, hi⟩ := exists_codeWord_of_mem_tableRuns c (run_mem_tableRuns hw hr)
  have hd : decodeWord s.cfg.tables c (unreadBits s) = .ok (i, r.len) := by
    simp only [decodeWord, ht, h, wordInstr_of_codeWord? hi]
  rw [stepRunsTheCodeWordAtTheCursor s c i r.len hwalk hregion hd, exec_codeWord s hi]
  simp only [runWord, codeRow?_of_mem hw hr]

/-- Where a walk reaches none, the step is its fault (spec 42_huffman R204, R208). -/
theorem step_of_no_leaf (hwalk : s.hu.walk = some c)
    (hregion : s.hu.rstart.toNat + s.hu.rcount.toNat ≤ s.cfg.inSize.toNat) (ht : rom s.cfg.tables c = some t)
    (h : ∀ v u, walk t (unreadBits s) ≠ .leaf v u) :
    step s = .next (walkFailed (walk t (unreadBits s)) s) := by
  obtain ⟨e, he⟩ := decodeWord_error_of_no_leaf ht h
  have hinside : regionInside s = true := decide_eq_true hregion
  refine step_of_stop ((fetch_insideHnext hwalk).trans ?_)
  rcases fetchWord_cases c s with ⟨hout, -⟩ | ⟨-, hrom, -⟩ | ⟨-, t', ht', ⟨i, u, hd, -⟩ | ⟨e', -, heq⟩⟩
  · cases hinside.symm.trans hout
  · cases ht.symm.trans hrom
  · cases he.symm.trans hd
  · cases ht.symm.trans ht'
    exact heq

end Inside

/-! ### The steps of an `HNEXT` -/

/-- Some steps lead from one state to another, inside an `HNEXT` that reads the table of `c` until the last. -/
def StepsInside (c : Color) (s t : State) : Prop :=
  ∃ n : Nat, Host.Core.run Sys2Proof.core n s = .next t ∧
    ∀ m < n, ∃ u : State, Host.Core.run Sys2Proof.core m s = .next u ∧ u.hu.walk = some c

theorem run_succ {s t : State} (h : step s = .next t) (n : Nat) :
    Host.Core.run Sys2Proof.core (n + 1) s = Host.Core.run Sys2Proof.core n t := by
  have hstep : Sys2Proof.core.step s = .next t := h
  simp only [Host.Core.run, hstep]

theorem StepsInside.refl (c : Color) (s : State) : StepsInside c s s := ⟨0, rfl, nofun⟩

theorem StepsInside.head {c : Color} {s t u : State} (hwalk : s.hu.walk = some c) (h : step s = .next t)
    (hrest : StepsInside c t u) : StepsInside c s u := by
  obtain ⟨n, hrun, hinside⟩ := hrest
  refine ⟨n + 1, (run_succ h n).trans hrun, fun m hm => ?_⟩
  cases m with
  | zero => exact ⟨s, rfl, hwalk⟩
  | succ m =>
    rw [run_succ h m]
    exact hinside m (by omega)

/-- The state after a makeup word, the `HNEXT` still under way (spec 42_huffman R206). -/
def makeupRead (run len : Nat) (s : State) : State :=
  { s with hu := { s.hu with bitcur := s.hu.bitcur + len, acc := BitVec.ofNat 32 (s.hu.acc.toNat + run) } }

theorem unreadBits_makeupRead (run len : Nat) (s : State) :
    unreadBits (makeupRead run len s) = (unreadBits s).drop len := unreadBits_advanceBits len s

theorem makeupRead_acc {run : Nat} {s : State} (len : Nat) (h : s.hu.acc.toNat + run ≤ accMax) :
    (makeupRead run len s).hu.acc.toNat = s.hu.acc.toNat + run :=
  Nat.mod_eq_of_lt (Nat.lt_succ_of_le h)

/-- A word already read counts into the end of the run. -/
theorem hnextEnd_makeupRead (run len : Nat) (s : State) (e : RunEnd) :
    hnextEnd (makeupRead run len s) e = hnextEnd s (e.after len) := by
  cases e <;> simp [hnextEnd, makeupRead, RunEnd.after, huFinish, huFail, advanceBits, respond, Nat.add_assoc]

/-- A walk that reaches a leaf has read one bit or more, and unread bits only. -/
theorem walk_leaf_used {t : List RomEntry} {bits : List Bool} {v used : Nat} (h : walk t bits = .leaf v used) :
    1 ≤ used ∧ used ≤ bits.length := by
  have hmax := walk_used_le t bits
  rw [h] at hmax
  exact ⟨by simpa using walkFrom_leaf_used h, hmax⟩

/-- Inside an `HNEXT` the machine steps from word to word to the end of the run, by induction on the bits still to be read: every
word reads at least one (spec 42_huffman R202, R203). -/
theorem stepsInside_hnextEnd {s : State} {c : Color} {t : List RomEntry} (hwalk : s.hu.walk = some c)
    (hregion : s.hu.rstart.toNat + s.hu.rcount.toNat ≤ s.cfg.inSize.toNat)
    (hw : tablesWellFormed s.cfg.tables = true) (ht : rom s.cfg.tables c = some t) :
    StepsInside c s (hnextEnd s (decodeRun t 0 s.hu.acc.toNat 0 (unreadBits s))) := by
  induction hlen : (unreadBits s).length using Nat.strong_induction_on generalizing s with
  | _ len ih =>
  cases hend : walk t (unreadBits s) with
  | noPath used =>
    have hstep := step_of_no_leaf hwalk hregion ht (by simp [hend])
    rw [hend] at hstep
    rw [decodeRun_noPath hend]
    exact .head hwalk hstep (.refl c _)
  | endOfInput used =>
    have hstep := step_of_no_leaf hwalk hregion ht (by simp [hend])
    rw [hend] at hstep
    rw [decodeRun_endOfInput hend]
    exact .head hwalk hstep (.refl c _)
  | leaf v used =>
    have hstep := step_of_walk_leaf hwalk hregion hw ht hend
    rcases addRun_cases v used s with ⟨hover, h⟩ | ⟨hfits, hterm, h⟩ | ⟨hfits, hmakeup, h⟩ <;> rw [h] at hstep <;>
      refine .head hwalk hstep ?_
    · rw [decodeRun_overflow hend hover]
      exact .refl c _
    · rw [decodeRun_terminating hend hfits hterm]
      exact .refl c _
    · have hshorter : (unreadBits (makeupRead v used s)).length < len := by
        have hused := walk_leaf_used hend
        rw [unreadBits_makeupRead, List.length_drop]
        omega
      have hrest := ih _ hshorter (s := makeupRead v used s) hwalk hregion hw ht rfl
      rw [hnextEnd_makeupRead, makeupRead_acc used hfits, unreadBits_makeupRead] at hrest
      rw [decodeRun_makeup hend hfits hmakeup]
      exact hrest

/-- The state in which the steps of an `HNEXT` begin (spec 42_huffman R202). -/
def insideHnext (c : Color) (s : State) : State := { s with hu := { s.hu with acc := 0, walk := some c } }

theorem hnextEnd_insideHnext (c : Color) (s : State) (e : RunEnd) : hnextEnd (insideHnext c s) e = hnextEnd s e := by
  cases e <;> rfl

/-- Settles O44: the command and its steps both lead to the end of the run. -/
theorem hnextIsTheRunOfItsCodeWords : Obligations.HnextIsTheRunOfItsCodeWords := by
  rintro s sel hcfg hv hf ⟨-, hregion, -⟩ -
  have hw := tablesWellFormed_of_cfg hcfg
  obtain ⟨t, ht⟩ := Option.ne_none_iff_exists'.1 (rom_ne_none hw (selColor s.hu.color sel))
  obtain ⟨n, hrun, hinside⟩ := stepsInside_hnextEnd (s := insideHnext (selColor s.hu.color sel) s) rfl hregion hw ht
  rw [hnextEnd_insideHnext] at hrun
  exact ⟨n, _, exec_hnext_of_rom hv hf hregion ht, hrun, hinside⟩

end Sys2Proof.Machine

/-! SUPPORT. Proof of the statement about the duties of the host during a command (spec 70_reset R260, R276). -/

namespace Sys2Proof.Machine
open Sys2Proof

/-- A command issued before the response to the one before it, legal or not, is refused (spec 70_reset R276). -/
theorem fetchCommand_secondCommand (w w' : CmdWord) (more : List Meanwhile) (s : State) :
    fetchCommand w (.command w' :: more) s = .stop (.refused .commandBeforeResponse) := by
  cases hd : decodeCommand w with
  | ok i => exact fetchCommand_refused hd rfl
  | error e => simp only [fetchCommand, hd, hostMeanwhile]

/-- Settles O15: the refusal comes with the first thing done during the command, so what follows does not matter. -/
theorem secondCommandOrResetDuringACommandIsRefused : Obligations.SecondCommandOrResetDuringACommandIsRefused := by
  intro s w w' more rest hw
  constructor
  · intro hi
    exact step_of_stop ((fetch_event hw hi).trans (fetchCommand_secondCommand w w' more _))
  · intro hi
    exact step_of_stop ((fetch_event hw hi).trans (fetchCommand_reset w more _))

end Sys2Proof.Machine
